-- ==== Sys2Proof/Word.lean ====
section
/-! DEFINITION. The word types of the block (00_scope.md R8, R12, R13): bytes, 32-bit frequencies, 40-bit frame words.
All values are unsigned and bit 0 is the least significant bit (R12). -/

namespace Sys2Proof

/-- A byte: one transfer of the Byte Transport (00_scope.md R12, 20_memory.md R67). -/
abbrev Byte := BitVec 8

/-- A frequency in Hz, FREQ_W = 32 bits (00_scope.md R8, 10_state.md R22). -/
abbrev Hz := BitVec 32

/-- The frame word `W = d0 ‖ d1 ‖ d2 ‖ d3 ‖ d4` (00_scope.md R13). -/
abbrev FrameWord := BitVec 40

end Sys2Proof
end

