-- ==== Sys2Proof/Config.lean ====
section
/-! DEFINITION. What the implementation or the environment fixes: the parameters of 00_scope.md R8 to R11, and the free
values of the output ports whose value the spec leaves open (93_implementation_defined.md I13). -/

namespace Sys2Proof

namespace Config

/-- FRAME_LEN: 4 payload bytes, then 1 opcode byte (00_scope.md R8). -/
def frameLen : Nat := 5

/-- RESP_MAX: the longest response (00_scope.md R8), and the least legal TXQ_DEPTH (R9). -/
def respMax : Nat := 5

/-- FREQ_MAX: the largest representable frequency in Hz (00_scope.md R8). -/
def freqMax : Nat := 999999990

/-- FREQ_RES: the protocol resolution in Hz (00_scope.md R8). -/
def freqRes : Nat := 10

/-- The value of `tx_data` in a clock cycle in which `tx_valid = 0`: any value (10_state.md R44, I13).
FREE VALUE, one for each cycle number. -/
opaque txDataWhenInvalid : Nat → Byte

/-- The value of `log_cause` in a clock cycle in which `log_valid = 0`: not stated (10_state.md R46).
FREE VALUE, one for each cycle number. -/
opaque logCauseWhenInvalid : Nat → BitVec 3

/-- The value of `log_sev` in a clock cycle in which `log_valid = 0`: not stated (10_state.md R46).
FREE VALUE, one for each cycle number. -/
opaque logSevWhenInvalid : Nat → BitVec 2

/-- The value of `log_frame` in a clock cycle in which `log_valid = 0`: not stated (10_state.md R46).
FREE VALUE, one for each cycle number. -/
opaque logFrameWhenInvalid : Nat → FrameWord

end Config

/-- ACK_OFF_POLARITY, the open parameter of 00_scope.md R10: which acknowledgement byte SPLITOFF and CLAROFF send. -/
inductive AckOffPolarity where
  /-- 0xF0 means the flag was already off (the default, R10). -/
  | requested
  /-- 0xF0 means the flag was on (R10). -/
  | priorValue
  deriving DecidableEq, Repr

/-- The open parameters of one built block (00_scope.md R9, R10). -/
structure Params where
  /-- TXQ_DEPTH: `some n` bytes, or `none` for unbounded (R9). -/
  txqDepth : Option Nat
  /-- ACK_OFF_POLARITY (R10). -/
  ackOff : AckOffPolarity
  deriving DecidableEq, Repr

/-- The startup configuration CFG, the argument of Reset (00_scope.md R11). -/
structure Cfg where
  /-- CFG_FREQ: initial frequency of VFO A in Hz. -/
  freq : Hz
  /-- CFG_FREQ_B: initial frequency of VFO B in Hz; `none` is its default, CFG_FREQ (R11). -/
  freqB : Option Hz
  /-- CFG_MODE: initial mode code. -/
  mode : Byte
  /-- CFG_LOCK. -/
  lock : Bool
  /-- CFG_SPLIT. -/
  split : Bool
  /-- CFG_CLAR. -/
  clar : Bool
  deriving DecidableEq, Repr

end Sys2Proof
end

