-- ==== Sys2Proof/Syntax.lean ====
section
/-! DEFINITION. Frames and instructions: one constructor of `Instr` for each row of spec/opcode_table.json, the 228 rows
`UNKNOWN` (one rule, 47_unsupported_stub.md R224) being one constructor with the opcode as its operand (log entry 9).

Every constructor also carries the payload bytes its operand form ignores: they change nothing the instruction does
(30_encoding.md R86), but a log record shows the whole frame, ignored bytes included (60_exceptions.md R238; log entry 10). -/

namespace Sys2Proof

/-- The payload P0..P3 = d0..d3 of a frame (00_scope.md R13). -/
structure Payload where
  p0 : Byte
  p1 : Byte
  p2 : Byte
  p3 : Byte
  deriving DecidableEq, Repr

/-- The five bytes of a frame in arrival order (00_scope.md R13, 20_memory.md R62); `d4` is the opcode. -/
structure Frame where
  d0 : Byte
  d1 : Byte
  d2 : Byte
  d3 : Byte
  d4 : Byte
  deriving DecidableEq, Repr

/-- The instructions (30_encoding.md R88, R89). Operand forms: FREQ32 (SETFREQ: all of `p`), MODE8 (SETMODE: `m`, then three
ignored bytes), NONE (all others: `x` is ignored). -/
inductive Instr where
  /-- SETFREQ, OP 0x01, R170. -/
  | setfreq (p : Payload)
  /-- GETFREQ, OP 0x03, R171. -/
  | getfreq (x : Payload)
  /-- TXSTAT, OP 0xF7, R180. -/
  | txstat (x : Payload)
  /-- RXSTAT, OP 0xE7, R181. -/
  | rxstat (x : Payload)
  /-- RDEEPROM, OP 0xBB, R182. -/
  | rdeeprom (x : Payload)
  /-- VFOTOG, OP 0x81, R172. -/
  | vfotog (x : Payload)
  /-- LOCKTOG, OP 0x00, R190. -/
  | locktog (x : Payload)
  /-- SPLITON, OP 0x02, R191. -/
  | spliton (x : Payload)
  /-- SPLITOFF, OP 0x82, R192. -/
  | splitoff (x : Payload)
  /-- CLARON, OP 0x05, R193. -/
  | claron (x : Payload)
  /-- CLAROFF, OP 0x85, R194. -/
  | claroff (x : Payload)
  /-- SETMODE, OP 0x07, R200. -/
  | setmode (m x1 x2 x3 : Byte)
  /-- PTTON, OP 0x08, R195. -/
  | ptton (x : Payload)
  /-- PTTOFF, OP 0x88, R196. -/
  | pttoff (x : Payload)
  /-- GETKEY, OP 0x10, R183. -/
  | getkey (x : Payload)
  /-- UNS_09, OP 0x09, R211. -/
  | uns09 (x : Payload)
  /-- UNS_0A, OP 0x0A, R212. -/
  | uns0A (x : Payload)
  /-- UNS_0B, OP 0x0B, R213. -/
  | uns0B (x : Payload)
  /-- UNS_0C, OP 0x0C, R214. -/
  | uns0C (x : Payload)
  /-- UNS_0F, OP 0x0F, R215. -/
  | uns0F (x : Payload)
  /-- UNS_8F, OP 0x8F, R216. -/
  | uns8F (x : Payload)
  /-- UNS_A7, OP 0xA7, R217. -/
  | unsA7 (x : Payload)
  /-- UNS_BA, OP 0xBA, R218. -/
  | unsBA (x : Payload)
  /-- UNS_BC, OP 0xBC, R219. -/
  | unsBC (x : Payload)
  /-- UNS_BE, OP 0xBE, R220. -/
  | unsBE (x : Payload)
  /-- UNS_F9, OP 0xF9, R221. -/
  | unsF9 (x : Payload)
  /-- TXMETER, OP 0xBD, R222. -/
  | txmeter (x : Payload)
  /-- SETCLARF, OP 0xF5, R223. -/
  | setclarf (x : Payload)
  /-- UNKNOWN, any of the 228 opcode values that are not listed, R224; `op` is that value. -/
  | unknown (op : Byte) (x : Payload)
  deriving DecidableEq, Repr

end Sys2Proof
end

