-- ==== Sys2Proof/Machine/State.lean ====
section
/-! DEFINITION. The state of the block (10_state.md R20 to R40), the events it emits (42_dispatch.md R154), the steps that can
happen to it (10_state.md R50), why a step can stop, and the state after reset. All of it is plain data. -/

namespace Sys2Proof.Machine

/-- The active-VFO selector: `A` is 0, `B` is 1 (10_state.md R24). -/
inductive Vfo where
  | A
  | B
  deriving DecidableEq, Repr

/-- TS, the transceiver register file (10_state.md R21 to R29). -/
structure TS where
  /-- Frequency of VFO A in Hz (R22). -/
  vfoA : Hz
  /-- Frequency of VFO B in Hz (R23). -/
  vfoB : Hz
  /-- The bank select of the two VFO registers (R24). -/
  activeVFO : Vfo
  /-- The operating-mode code (R25). -/
  mode : Byte
  /-- The transmit-key state (R26). -/
  ptt : Bool
  /-- The split flag (R27). -/
  split : Bool
  /-- The clarifier on/off flag (R28). -/
  clar : Bool
  /-- The lock flag (R29). -/
  lock : Bool
  deriving DecidableEq, Repr

/-- The dispatcher's phase register: IDLE (0), WAIT_BE (1) (10_state.md R36). -/
inductive Phase where
  | idle
  | waitBe
  deriving DecidableEq, Repr

/-- The causes of log events (60_exceptions.md R231). -/
inductive Cause where
  /-- EV_MALFORMED_BCD, code 1 (R232). -/
  | malformedBcd
  /-- EV_BAD_MODE, code 2 (R233). -/
  | badMode
  /-- EV_UNSUPPORTED, code 3 (R234). -/
  | unsupported
  /-- EV_UNKNOWN, code 4 (R235). -/
  | unknownOpcode
  /-- EV_BACKEND_FAIL, code 5 (R236). -/
  | backendFail
  /-- EV_TRANSPORT_FAIL, code 6 (R237). -/
  | transportFail
  deriving DecidableEq, Repr

/-- The severities of log events: 0 low, 1 warning, 2 alert, 3 fatal (60_exceptions.md R231). -/
inductive Severity where
  | low
  | warning
  | alert
  | fatal
  deriving DecidableEq, Repr

/-- One log record `(cause, sev, W')` (60_exceptions.md R238). -/
structure LogRecord where
  cause : Cause
  sev : Severity
  /-- The frame word of causes 1 to 4, 0 for causes 5 and 6 (R238). -/
  word : FrameWord
  deriving DecidableEq, Repr

/-- The events of the trace (42_dispatch.md R154). -/
inductive Event where
  /-- `Tx(b)`: a response byte leaves on the transport (R152). -/
  | tx (b : Byte)
  /-- `Notify`: the rise of `be_req` (R143, R145). -/
  | notify
  /-- `Log(cause, sev, W)` (60_exceptions.md R238). -/
  | log (r : LogRecord)
  /-- `Shutdown`: the `be_shutdown` pulse (60_exceptions.md R242). -/
  | shutdown
  deriving DecidableEq, Repr

/-- The input ports of one clock cycle, `clk` apart (10_state.md R41). -/
structure PortIn where
  rst : Bool
  /-- `cfg_freq_a`, `cfg_freq_b`, `cfg_mode`, `cfg_lock`, `cfg_split`, `cfg_clar`; read only in the last cycle with `rst = 1`
  (R53). -/
  cfg : Cfg
  rxData : Byte
  rxValid : Bool
  txReady : Bool
  beAck : Bool
  beFail : Bool
  xportErr : Bool
  terminate : Bool
  deriving DecidableEq, Repr

/-- The steps of 10_state.md R50, and one clock cycle of the port interface (R41 to R47), in which several of them may
happen. -/
inductive Move where
  /-- Reset(CFG), environment (70_reset_and_hazards.md R260, R261). -/
  | reset (cfg : Cfg)
  /-- RxByte: the transport offers the next byte it holds (41_frame_assembler.md R120, R121). -/
  | rx
  /-- Dispatch, the block's own step (42_dispatch.md R140, R143). -/
  | dispatch
  /-- BeAck, Backend Controller (42_dispatch.md R144). -/
  | beAck
  /-- TxByte: the transport takes a response byte (42_dispatch.md R152). -/
  | tx
  /-- BeFail, Backend Controller (60_exceptions.md R236). -/
  | beFail
  /-- XportErr, environment (60_exceptions.md R237). -/
  | xportErr
  /-- Terminate, environment (60_exceptions.md R242). -/
  | terminate
  /-- One clock cycle with these inputs; `dispatchNow` says whether an enabled Dispatch is performed in it, which the spec
  leaves to the implementation (10_state.md R51, R241; log entry 11). -/
  | cycle (dispatchNow : Bool) (inputs : PortIn)
  deriving DecidableEq, Repr

/-- The state of the model. The fields down to `halted` are the state the spec gives the machine and its parameters; `trace`
is its observable behaviour (42_dispatch.md R154); the rest are the model's own, for the host agents (INVENTORY.md). -/
structure State where
  /-- TXQ_DEPTH and ACK_OFF_POLARITY (00_scope.md R9, R10); no step writes them. -/
  params : Params
  /-- The transceiver register file (R21). -/
  ts : TS
  /-- The frame shift register `sr[0..4]` (R33): `d0` is `sr[0]`, `d4` is `sr[4]`. -/
  sr : Frame
  /-- Bytes of the in-progress frame collected so far (R34). -/
  count : BitVec 3
  /-- The frame-valid flag (R35). -/
  valid : Bool
  /-- The dispatcher's phase (R36). -/
  phase : Phase
  /-- The response held while WAIT_BE (R37). -/
  pend : List Byte
  /-- The response queue, head first (R38). -/
  txq : List Byte
  /-- Set by a transport failure or a termination request (R39). -/
  halted : Bool
  /-- The events emitted so far, oldest first (42_dispatch.md R154). -/
  trace : List Event
  /-- The request bytes the Byte Transport holds and has yet to deliver, next first (R129; log entry 5). -/
  rxLine : List Byte
  /-- What happens next, in order (R50; log entry 3). -/
  sched : List Move
  /-- Log events raised and not yet shown on the log port (60_exceptions.md R241; log entry 13). -/
  logQueue : List LogRecord
  /-- Clock cycles of the port interface so far: the argument of the free values of Config (log entry 14). -/
  cycles : Nat
  deriving DecidableEq, Repr

/-- Why the machine stops with a fault: never. The block has no traps, and every error is handled locally
(60_exceptions.md R230, 30_encoding.md R90), so no step raises a fault and there is no reason to name (log entry 17). -/
inductive Fault where
  deriving DecidableEq, Repr

/-- Why the model gives a step no meaning. -/
inductive Refusal where
  /-- Raised by an arm of `exec` for an instruction without a meaning yet; no arm raises it. Safe: nothing is claimed of
  the instruction. -/
  | notModelled (mnemonic : String)
  /-- Raised by a Reset, or the last clock cycle with `rst = 1`, whose configuration is illegal: "A model refuses a Reset with an
  illegal configuration: it gives it no meaning" (70_reset_and_hazards.md R262). Safe: the spec says nothing of what
  hardware does then. -/
  | illegalConfiguration (cfg : Cfg)
  deriving DecidableEq, Repr

/-- The state right after a Reset with configuration `cfg`, before any event, of a block with parameters `p`
(70_reset_and_hazards.md R261). -/
def State.initial (p : Params) (cfg : Cfg) : State where
  params := p
  ts := { vfoA := cfg.freq, vfoB := cfg.freqB.getD cfg.freq, activeVFO := .A, mode := cfg.mode, ptt := false,
          split := cfg.split, clar := cfg.clar, lock := cfg.lock }
  sr := ⟨0x00, 0x00, 0x00, 0x00, 0x00⟩
  count := 0
  valid := false
  phase := .idle
  pend := []
  txq := []
  halted := false
  trace := []
  rxLine := []
  sched := []
  logQueue := []
  cycles := 0

/-- The state right after reset with the configuration and parameters of the base state `S0` of 95_test_vectors.md:
CFG_FREQ = CFG_FREQ_B = 7,074,000, CFG_MODE = 0x01 (USB), all flags 0, TXQ_DEPTH = 8, ACK_OFF_POLARITY = REQUESTED.
DESIGN CHOICE, unsafe: the spec makes CFG an argument of reset (00_scope.md R11; log entries 1, 2). -/
def State.reset : State :=
  State.initial { txqDepth := some 8, ackOff := .requested }
    { freq := 7074000, freqB := some 7074000, mode := 0x01, lock := false, split := false, clar := false }

end Sys2Proof.Machine
end

