-- ==== Sys2Proof/Machine/Flags.lean ====
section
/-! DEFINITION. The acknowledgement bytes (45_toggles.md R190 to R197), the status byte (44_status_reads.md R180) and the
codes of causes and severities (60_exceptions.md R231). Each opcode names its own condition for 0xF0 (R197). -/

namespace Sys2Proof.Machine

/-- The acknowledgement byte: 0xF0 if the condition the opcode's rule names holds, else 0x00 (45_toggles.md R190 to R196). -/
def ackIf (c : Bool) : Byte := if c then 0xF0 else 0x00

/-- The acknowledgement of SPLITOFF and CLAROFF from the flag's prior value (45_toggles.md R192, R194; 00_scope.md R10). -/
def ackOffByte (pol : AckOffPolarity) (prior : Bool) : Byte :=
  match pol with
  | .requested => ackIf (!prior)
  | .priorValue => ackIf prior

/-- A 1-bit flag widened to a byte with zeros (00_scope.md R12). -/
def flagByte (b : Bool) : Byte := if b then 1 else 0

/-- The TXSTAT byte `((not ptt) << 7) | (split << 5)` (44_status_reads.md R180). -/
def txStatusByte (ptt split : Bool) : Byte := (flagByte (!ptt) <<< 7) ||| (flagByte split <<< 5)

/-- The 3-bit cause code `log_cause` (60_exceptions.md R231). -/
def causeCode : Cause → BitVec 3
  | .malformedBcd => 1
  | .badMode => 2
  | .unsupported => 3
  | .unknownOpcode => 4
  | .backendFail => 5
  | .transportFail => 6

/-- The severity of a cause (60_exceptions.md R231). -/
def causeSeverity : Cause → Severity
  | .malformedBcd => .warning
  | .badMode => .warning
  | .unsupported => .low
  | .unknownOpcode => .warning
  | .backendFail => .alert
  | .transportFail => .fatal

/-- The 2-bit severity code `log_sev` (60_exceptions.md R231). -/
def severityCode : Severity → BitVec 2
  | .low => 0
  | .warning => 1
  | .alert => 2
  | .fatal => 3

end Sys2Proof.Machine
end

