-- ==== Sys2Proof/Machine/Codec.lean ====
section
/-! DEFINITION. The BCD Frequency Codec: PACK and UNPACK (40_codec.md R100 to R110). Pure functions; the arithmetic is on
natural numbers (00_scope.md R15) and a result is then stored in a field of its width. -/

namespace Sys2Proof.Machine

/-- The outputs of PACK (40_codec.md R101). -/
structure Packed where
  b0 : Byte
  b1 : Byte
  b2 : Byte
  b3 : Byte
  ovf : Bool
  deriving DecidableEq, Repr

/-- The outputs of UNPACK (40_codec.md R105). -/
structure Unpacked where
  f : Hz
  bad : Bool
  deriving DecidableEq, Repr

/-- The decimal digit of `v` with weight `10 ^ i` (40_codec.md R101). -/
def decDigit (v i : Nat) : Nat := v / 10 ^ i % 10

/-- One packed-BCD byte, tens digit in the high nibble (40_codec.md R101, 20_memory.md R63). -/
def bcdByte (tens units : Nat) : Byte := (BitVec.ofNat 8 tens <<< 4) ||| BitVec.ofNat 8 units

/-- PACK, the document's `encode` (40_codec.md R101), saturating at 99 99 99 99 with `ovf = 1` (R102). -/
def pack (f : Hz) : Packed :=
  let v := f.toNat / 10
  if 10 ^ 8 ≤ v then ⟨0x99, 0x99, 0x99, 0x99, true⟩
  else ⟨bcdByte (decDigit v 7) (decDigit v 6), bcdByte (decDigit v 5) (decDigit v 4),
        bcdByte (decDigit v 3) (decDigit v 2), bcdByte (decDigit v 1) (decDigit v 0), false⟩

/-- `b[7:4]`, 0..15 (00_scope.md R12). -/
def hiNibble (b : Byte) : Nat := (b.extractLsb' 4 4).toNat

/-- `b[3:0]`, 0..15 (00_scope.md R12). -/
def loNibble (b : Byte) : Nat := (b.extractLsb' 0 4).toNat

/-- The 2-digit group of a byte, its raw nibbles read as digits: 0..99 when well formed, up to 165 when not
(40_codec.md R105, R107). -/
def bcdGroup (b : Byte) : Nat := 10 * hiNibble b + loNibble b

/-- A byte with a nibble over 9 (40_codec.md R106). -/
def bcdByteBad (b : Byte) : Bool := decide (9 < hiNibble b) || decide (9 < loNibble b)

/-- UNPACK, the document's `decode` (40_codec.md R105); when `bad = 1` the value is still the one of the pseudocode (R107). -/
def unpack (b0 b1 b2 b3 : Byte) : Unpacked where
  f := BitVec.ofNat 32 (10 * (bcdGroup b0 * 10 ^ 6 + bcdGroup b1 * 10 ^ 4 + bcdGroup b2 * 10 ^ 2 + bcdGroup b3))
  bad := bcdByteBad b0 || bcdByteBad b1 || bcdByteBad b2 || bcdByteBad b3

/-- The ports `pack_bcd`, `pack_ovf` of the stand-alone codec (40_codec.md R110): `b0` in bits 31:24, `b3` in bits 7:0. -/
def packPort (packF : BitVec 32) : BitVec 32 × Bool :=
  let r := pack packF
  (r.b0 ++ r.b1 ++ r.b2 ++ r.b3, r.ovf)

/-- The ports `unpack_f`, `unpack_bad` of the stand-alone codec (40_codec.md R110). -/
def unpackPort (unpackBcd : BitVec 32) : BitVec 32 × Bool :=
  let r := unpack (unpackBcd.extractLsb' 24 8) (unpackBcd.extractLsb' 16 8) (unpackBcd.extractLsb' 8 8)
    (unpackBcd.extractLsb' 0 8)
  (r.f, r.bad)

end Sys2Proof.Machine
end

