-- ==== Sys2Proof/Machine/Operands.lean ====
section
/-! DEFINITION. The operand forms FREQ32, MODE8 and NONE (30_encoding.md R83 to R86), the mode codes (10_state.md R25), the
VFO bank (R24) and the response lengths (42_dispatch.md R141). -/

namespace Sys2Proof.Machine

/-- The three operand forms (30_encoding.md R83). -/
inductive OperandForm where
  | freq32
  | mode8
  | none
  deriving DecidableEq, Repr

/-- Which operand form an opcode has (30_encoding.md R83). -/
def operandForm (op : Byte) : OperandForm :=
  if op = 0x01 then .freq32 else if op = 0x07 then .mode8 else .none

/-- The four classes of opcode values (30_encoding.md R87). -/
inductive OpClass where
  | handled
  | stub
  | unsupported
  | unknown
  deriving DecidableEq, Repr

/-- The 15 handled opcodes (30_encoding.md R87, R88). -/
def handledOpcodes : List Byte :=
  [0x01, 0x03, 0xF7, 0xE7, 0xBB, 0x81, 0x00, 0x02, 0x82, 0x05, 0x85, 0x07, 0x08, 0x88, 0x10]

/-- The 2 stub opcodes (30_encoding.md R87). -/
def stubOpcodes : List Byte := [0xBD, 0xF5]

/-- The 11 unsupported opcodes (30_encoding.md R87). -/
def unsupportedOpcodes : List Byte :=
  [0x09, 0x0A, 0x0B, 0x0C, 0x0F, 0x8F, 0xA7, 0xBA, 0xBC, 0xBE, 0xF9]

/-- The class of an opcode value (30_encoding.md R87). -/
def opClass (op : Byte) : OpClass :=
  if handledOpcodes.contains op then .handled
  else if stubOpcodes.contains op then .stub
  else if unsupportedOpcodes.contains op then .unsupported
  else .unknown

/-- RLEN(OP), the response length, fixed by the opcode alone (42_dispatch.md R141). -/
def rlen (op : Byte) : Nat :=
  if op = 0x03 then 5
  else if op = 0xBB then 2
  else match opClass op with
    | .handled => 1
    | .stub => 1
    | .unsupported => 0
    | .unknown => 0

/-- The FREQ32 operand `(f, bad)` (30_encoding.md R84). -/
def freqOperand (p : Payload) : Unpacked := unpack p.p0 p.p1 p.p2 p.p3

/-- The names of the 8 modes (10_state.md R25). -/
inductive ModeName where
  | lsb
  | usb
  | cw
  | cwr
  | am
  | fm
  | dig
  | pkt
  deriving DecidableEq, Repr

/-- The code of a mode (10_state.md R25). -/
def modeCode : ModeName → Byte
  | .lsb => 0x00
  | .usb => 0x01
  | .cw => 0x02
  | .cwr => 0x03
  | .am => 0x04
  | .fm => 0x08
  | .dig => 0x0A
  | .pkt => 0x0C

/-- The 8 mode codes (00_scope.md R8, 10_state.md R25). -/
def modeCodes : List Byte :=
  [modeCode .lsb, modeCode .usb, modeCode .cw, modeCode .cwr, modeCode .am, modeCode .fm, modeCode .dig, modeCode .pkt]

/-- IS_MODE: the byte is one of the 8 mode codes, compared as is (10_state.md R25, 30_encoding.md R85). -/
def isMode (m : Byte) : Bool := modeCodes.contains m

/-- The frequency of the active VFO (10_state.md R24). -/
def activeFreq (ts : TS) : Hz :=
  match ts.activeVFO with
  | .A => ts.vfoA
  | .B => ts.vfoB

/-- Writes the active VFO's register and leaves the other alone (10_state.md R24, 43_frequency_vfo.md R170). -/
def setActiveFreq (f : Hz) (ts : TS) : TS :=
  match ts.activeVFO with
  | .A => { ts with vfoA := f }
  | .B => { ts with vfoB := f }

/-- The other VFO: `not activeVFO` (43_frequency_vfo.md R172). -/
def otherVfo : Vfo → Vfo
  | .A => .B
  | .B => .A

/-- The bit of the selector: 0 = A, 1 = B (10_state.md R24). -/
def vfoBit : Vfo → Bool
  | .A => false
  | .B => true

end Sys2Proof.Machine
end

