-- ==== Sys2Proof/Decode.lean ====
section
/-! DEFINITION. The decoder and the encoder of format F5B (30_encoding.md R80 to R91): the opcode ROM, a frame to its
instruction and back, the 40-bit frame word, and decoding of a byte list, which refuses by name what is shorter than a frame. -/

namespace Sys2Proof

/-- The frame with payload `p` and opcode `op` (30_encoding.md R81). -/
def Payload.withOp (p : Payload) (op : Byte) : Frame := ⟨p.p0, p.p1, p.p2, p.p3, op⟩

/-- The payload of a frame (00_scope.md R13). -/
def Frame.payload (f : Frame) : Payload := ⟨f.d0, f.d1, f.d2, f.d3⟩

/-- The bytes of a frame in arrival order (20_memory.md R62). -/
def Frame.bytes (f : Frame) : List Byte := [f.d0, f.d1, f.d2, f.d3, f.d4]

/-- The opcode ROM: the 28 listed opcodes in the order of 30_encoding.md R88, each with the instruction it selects. -/
def rom : List (Byte × (Payload → Instr)) :=
  [(0x01, .setfreq), (0x03, .getfreq), (0xF7, .txstat), (0xE7, .rxstat), (0xBB, .rdeeprom), (0x81, .vfotog),
   (0x00, .locktog), (0x02, .spliton), (0x82, .splitoff), (0x05, .claron), (0x85, .claroff),
   (0x07, fun p => .setmode p.p0 p.p1 p.p2 p.p3), (0x08, .ptton), (0x88, .pttoff), (0x10, .getkey),
   (0x09, .uns09), (0x0A, .uns0A), (0x0B, .uns0B), (0x0C, .uns0C), (0x0F, .uns0F), (0x8F, .uns8F),
   (0xA7, .unsA7), (0xBA, .unsBA), (0xBC, .unsBC), (0xBE, .unsBE), (0xF9, .unsF9), (0xBD, .txmeter),
   (0xF5, .setclarf)]

/-- The 28 opcode values of 30_encoding.md R88; the other 228 are unknown opcodes (R87, R89). -/
def listedOpcodes : List Byte := rom.map Prod.fst

/-- Decoding of a complete frame: the opcode alone selects the instruction and every frame has one (30_encoding.md R82,
R90, R91). -/
def decodeFrame (f : Frame) : Instr :=
  match rom.lookup f.d4 with
  | some c => c f.payload
  | none => .unknown f.d4 f.payload

/-- Why a byte list does not begin with a frame. -/
inductive DecodeError where
  /-- Fewer than FRAME_LEN bytes; `have_` of them are there (30_encoding.md R80). The block then waits for the rest. -/
  | shortFrame (have_ : Nat)
  deriving DecidableEq, Repr

/-- Decoding of a byte list: the first five bytes are one instruction, the rest stays (30_encoding.md R80). -/
def decode : List Byte → Except DecodeError (Instr × List Byte)
  | d0 :: d1 :: d2 :: d3 :: d4 :: rest => .ok (decodeFrame ⟨d0, d1, d2, d3, d4⟩, rest)
  | short => .error (.shortFrame short.length)

/-- The frame word `W` (00_scope.md R13, 30_encoding.md R81): `W[39:32] = d0`, `W[7:0] = d4`. -/
def frameWord (f : Frame) : FrameWord := f.d0 ++ f.d1 ++ f.d2 ++ f.d3 ++ f.d4

/-- The frame of a frame word: the inverse reading of 30_encoding.md R81. -/
def frameOfWord (w : FrameWord) : Frame :=
  ⟨w.extractLsb' 32 8, w.extractLsb' 24 8, w.extractLsb' 16 8, w.extractLsb' 8 8, w.extractLsb' 0 8⟩

/-- The encoder: the frame of an instruction (30_encoding.md R81, R83, R88). -/
def encode : Instr → Frame
  | .setfreq p => p.withOp 0x01
  | .getfreq x => x.withOp 0x03
  | .txstat x => x.withOp 0xF7
  | .rxstat x => x.withOp 0xE7
  | .rdeeprom x => x.withOp 0xBB
  | .vfotog x => x.withOp 0x81
  | .locktog x => x.withOp 0x00
  | .spliton x => x.withOp 0x02
  | .splitoff x => x.withOp 0x82
  | .claron x => x.withOp 0x05
  | .claroff x => x.withOp 0x85
  | .setmode m x1 x2 x3 => ⟨m, x1, x2, x3, 0x07⟩
  | .ptton x => x.withOp 0x08
  | .pttoff x => x.withOp 0x88
  | .getkey x => x.withOp 0x10
  | .uns09 x => x.withOp 0x09
  | .uns0A x => x.withOp 0x0A
  | .uns0B x => x.withOp 0x0B
  | .uns0C x => x.withOp 0x0C
  | .uns0F x => x.withOp 0x0F
  | .uns8F x => x.withOp 0x8F
  | .unsA7 x => x.withOp 0xA7
  | .unsBA x => x.withOp 0xBA
  | .unsBC x => x.withOp 0xBC
  | .unsBE x => x.withOp 0xBE
  | .unsF9 x => x.withOp 0xF9
  | .txmeter x => x.withOp 0xBD
  | .setclarf x => x.withOp 0xF5
  | .unknown op x => x.withOp op

/-- The frame word of an instruction, `W` in the rules of files 43 to 47. -/
def instrWord (i : Instr) : FrameWord := frameWord (encode i)

/-- The opcode of an instruction, `W[7:0]` (30_encoding.md R81). -/
def opcodeOf (i : Instr) : Byte := (encode i).d4

/-- The frame that the low `nbits` bits of `w` stand for, numbered as spec/opcode_table.json numbers them (its `match` and
`mask` are over W: 30_encoding.md R91, R95), every higher bit of the frame being 0. -/
def frameOfTableWord (nbits w : Nat) : Frame := frameOfWord (BitVec.ofNat 40 (w % 2 ^ nbits))

/-- The instruction the decoder reads from an instruction word numbered as spec/opcode_table.json numbers it; the bytes are
laid out in arrival order (20_memory.md R62). More than 40 bits are no frame (30_encoding.md R80). -/
def decodeTableWord (nbits w : Nat) : Option Instr :=
  if w < 2 ^ 40 then
    match decode (frameOfTableWord nbits w).bytes with
    | .ok (i, _) => some i
    | .error _ => none
  else none

end Sys2Proof
end

