-- ==== Sys2Proof/WellFormed.lean ====
section
/-! DEFINITION. The one check an instruction must meet: the operand of UNKNOWN is an opcode that no listed instruction has
(30_encoding.md R87). Every other field may hold any value of its width: a malformed BCD payload or a mode byte that is no
mode code is a legal frame with a meaning of its own (43_frequency_vfo.md R170, 46_mode.md R200). -/

namespace Sys2Proof

/-- True of the 28 listed opcode values (30_encoding.md R88). -/
def isListed (op : Byte) : Bool := listedOpcodes.contains op

/-- An instruction is well formed iff, being UNKNOWN, its opcode is not listed (30_encoding.md R87, R89). -/
def wellFormed : Instr → Bool
  | .setfreq _ => true
  | .getfreq _ => true
  | .txstat _ => true
  | .rxstat _ => true
  | .rdeeprom _ => true
  | .vfotog _ => true
  | .locktog _ => true
  | .spliton _ => true
  | .splitoff _ => true
  | .claron _ => true
  | .claroff _ => true
  | .setmode _ _ _ _ => true
  | .ptton _ => true
  | .pttoff _ => true
  | .getkey _ => true
  | .uns09 _ => true
  | .uns0A _ => true
  | .uns0B _ => true
  | .uns0C _ => true
  | .uns0F _ => true
  | .uns8F _ => true
  | .unsA7 _ => true
  | .unsBA _ => true
  | .unsBC _ => true
  | .unsBE _ => true
  | .unsF9 _ => true
  | .txmeter _ => true
  | .setclarf _ => true
  | .unknown op _ => !isListed op

end Sys2Proof
end

