-- ==== Sys2Proof/Machine/Ops.lean ====
section
/-! DEFINITION. The shared operations on the state: emitting events, committing the outcome of a dispatch
(42_dispatch.md R142, R143), and the steps of the host agents (10_state.md R50). A step that is not enabled changes nothing
(R42, R45; 60_exceptions.md R243; log entry 4).

The block has no memory (20_memory.md R60) and no trap entry (60_exceptions.md R230); what other machines do by taking an
exception is here `logEvent`, after which frames go on, and `haltEntry`, which only a reset leaves. -/

namespace Sys2Proof.Machine

/-! ### Named updates -/

/-- Appends an event to the trace (42_dispatch.md R154). -/
def emit (e : Event) (s : State) : State := { s with trace := s.trace ++ [e] }

/-- `TS <- TS'`: every field at once (42_dispatch.md R143, 20_memory.md R67). -/
def setTs (ts : TS) (s : State) : State := { s with ts := ts }

/-- The response is held and the dispatcher waits for the backend; `valid` stays 1 (42_dispatch.md R143). -/
def holdResponse (resp : List Byte) (s : State) : State := { s with pend := resp, phase := .waitBe }

/-- The response is queued and the assembler is free again (42_dispatch.md R143). -/
def queueResponse (resp : List Byte) (s : State) : State := { s with txq := s.txq ++ resp, valid := false }

/-- `Log(cause, info)`: one event with the severity of its cause; `w` is W for causes 1 to 4 and 0 for causes 5 and 6
(60_exceptions.md R238). Nothing else changes (R230). -/
def logEvent (c : Cause) (w : FrameWord) (s : State) : State :=
  emit (.log { cause := c, sev := causeSeverity c, word := w }) s

/-! ### Dispatch -/

/-- The outcome of a frame, `EXEC(W, TS) = (TS', notify, ev, resp)` (42_dispatch.md R142). -/
structure Effect where
  /-- TS'. -/
  ts : TS
  /-- Whether the backend is notified. -/
  notify : Bool
  /-- The log event `(cause, W)`, if any. -/
  ev : Option (Cause × FrameWord)
  /-- The response bytes. -/
  resp : List Byte
  deriving DecidableEq, Repr

/-- An outcome that neither notifies nor logs. -/
def reply (ts : TS) (resp : List Byte) : Effect := { ts := ts, notify := false, ev := none, resp := resp }

/-- An outcome that writes TS and notifies the backend. -/
def replyNotify (ts : TS) (resp : List Byte) : Effect := { ts := ts, notify := true, ev := none, resp := resp }

/-- An outcome that leaves TS as it is and logs the frame. -/
def replyLog (ts : TS) (c : Cause) (w : FrameWord) (resp : List Byte) : Effect :=
  { ts := ts, notify := false, ev := some (c, w), resp := resp }

/-- The log event of an outcome, if it has one (42_dispatch.md R143). -/
def logOutcome (ev : Option (Cause × FrameWord)) (s : State) : State :=
  match ev with
  | some (c, w) => logEvent c w s
  | none => s

/-- The effect of Dispatch with outcome `e` (42_dispatch.md R143), in the order TS, Log, Notify, response
(20_memory.md R69). -/
def commit (e : Effect) (s : State) : State :=
  let s1 := logOutcome e.ev (setTs e.ts s)
  if e.notify then holdResponse e.resp (emit .notify s1) else queueResponse e.resp s1

/-- Room in the response queue for `n` more bytes: `TXQ_DEPTH - length(txq) >= n`, always when the depth is unbounded
(42_dispatch.md R140, 00_scope.md R9; log entry 18). -/
def hasRoom (s : State) (n : Nat) : Bool :=
  match s.params.txqDepth with
  | none => true
  | some d => Nat.ble (s.txq.length + n) d

/-- Dispatch is enabled (42_dispatch.md R140). -/
def dispatchEnabled (s : State) : Bool :=
  !s.halted && s.valid && s.phase == .idle && hasRoom s (rlen s.sr.d4)

/-- The instruction of the complete frame `d0..d4 = sr[0..4]` (41_frame_assembler.md R123). -/
def fetchInstr (s : State) : Instr := decodeFrame s.sr

/-! ### The steps of the host agents -/

/-- RxByte is enabled; `rx_ready` while `rst = 0` (41_frame_assembler.md R120, 10_state.md R43). -/
def rxReady (s : State) : Bool := !s.halted && !s.valid

/-- The frame shift register after byte `b` enters at `sr[4]` (41_frame_assembler.md R121). -/
def shiftIn (b : Byte) (f : Frame) : Frame := ⟨f.d1, f.d2, f.d3, f.d4, b⟩

/-- RxByte(b): the block takes request byte `b` (41_frame_assembler.md R120, R121). -/
def rxByte (b : Byte) (s : State) : State :=
  if rxReady s then
    if s.count = 4 then { s with sr := shiftIn b s.sr, count := 0, valid := true }
    else { s with sr := shiftIn b s.sr, count := s.count + 1 }
  else s

/-- The transport offers the next byte it holds; a byte that is not accepted stays with it (41_frame_assembler.md R120,
R129; 70_reset_and_hazards.md R275). -/
def rxOffer (s : State) : State :=
  match s.rxLine with
  | [] => s
  | b :: rest => if rxReady s then rxByte b { s with rxLine := rest } else s

/-- BeAck is enabled; `be_req` (42_dispatch.md R144, 10_state.md R45). -/
def beReq (s : State) : Bool := s.phase == .waitBe && !s.halted

/-- BeAck: the backend accepts the notification and the held response is queued (42_dispatch.md R144). -/
def beAck (s : State) : State :=
  if beReq s then { s with txq := s.txq ++ s.pend, pend := [], phase := .idle, valid := false } else s

/-- TxByte: the transport takes the head of `txq` (42_dispatch.md R152, 20_memory.md R70). -/
def txByte (s : State) : State :=
  if s.halted then s
  else match s.txq with
    | [] => s
    | b :: rest => emit (.tx b) { s with txq := rest }

/-- BeFail: a failed restart is logged, and nothing else happens (60_exceptions.md R236). -/
def beFail (s : State) : State := if s.halted then s else logEvent .backendFail 0 s

/-- Halt entry: Shutdown is emitted and `halted` is set; nothing else changes (60_exceptions.md R242). -/
def haltEntry (s : State) : State := { emit .shutdown s with halted := true }

/-- XportErr: the transport has failed; it is logged and the block halts (60_exceptions.md R237). -/
def xportErr (s : State) : State := if s.halted then s else haltEntry (logEvent .transportFail 0 s)

/-- Terminate: the block halts (60_exceptions.md R242). -/
def terminate (s : State) : State := if s.halted then s else haltEntry s

/-- A legal frequency: a multiple of 10 in 0..999,999,990 (10_state.md R22, 70_reset_and_hazards.md R262). -/
def freqLegal (f : Hz) : Bool := f.toNat % Config.freqRes == 0 && Nat.ble f.toNat Config.freqMax

/-- CFG_FREQ_B, which defaults to CFG_FREQ (00_scope.md R11). -/
def cfgFreqB (cfg : Cfg) : Hz := cfg.freqB.getD cfg.freq

/-- A legal configuration (70_reset_and_hazards.md R262); a flag is 0 or 1 by its type. -/
def cfgLegal (cfg : Cfg) : Bool := freqLegal cfg.freq && freqLegal (cfgFreqB cfg) && isMode cfg.mode

/-- TS after Reset(CFG) (70_reset_and_hazards.md R261). -/
def resetTs (cfg : Cfg) : TS :=
  { vfoA := cfg.freq, vfoB := cfgFreqB cfg, activeVFO := .A, mode := cfg.mode, ptt := false, split := cfg.split,
    clar := cfg.clar, lock := cfg.lock }

/-- The effect of Reset(CFG): every state element takes its reset value (70_reset_and_hazards.md R261) and no event is
emitted (R263). The trace so far, the bytes the transport still holds (R265) and the schedule are not the block's and stay. -/
def resetTo (cfg : Cfg) (s : State) : State :=
  { s with ts := resetTs cfg, sr := ⟨0x00, 0x00, 0x00, 0x00, 0x00⟩, count := 0, valid := false, phase := .idle,
           pend := [], txq := [], halted := false }

/-- Reset(CFG), enabled in every state (70_reset_and_hazards.md R260), refused when the configuration is illegal (R262). -/
def resetStep (cfg : Cfg) (s : State) : Host.Outcome State Fault Refusal :=
  if cfgLegal cfg then .next (resetTo cfg s) else .refused (.illegalConfiguration cfg)

/-- The state in which `w`, a frame word, stands as a complete frame that the very next step dispatches: the frame is in
`sr` with `valid = 1` and `count = 0`, the dispatcher is IDLE with nothing held, the block is not halted, a queue too full
for the response is empty, and the next scheduled step is Dispatch (42_dispatch.md R140; log entry 7). -/
def placeFrame (f : Frame) (s : State) : State :=
  { s with sr := f, count := 0, valid := true, phase := .idle, pend := [], halted := false,
           txq := if hasRoom s (rlen f.d4) then s.txq else [], sched := .dispatch :: s.sched }

end Sys2Proof.Machine
end

