-- ==== Sys2Proof/Machine/FrequencyVfo.lean ====
section
/-! DEFINITION. The frequency and VFO opcodes SETFREQ, GETFREQ, VFOTOG (43_frequency_vfo.md). An `...Outcome` is EXEC of
42_dispatch.md R142 for one opcode; the meaning commits it (R143). -/

namespace Sys2Proof.Machine

/-- SETFREQ: a well-formed payload is written to the active VFO and notified, even when the value is the same; a malformed one
writes nothing, is logged, and is acknowledged all the same (43_frequency_vfo.md R170). -/
def setfreqOutcome (p : Payload) (ts : TS) : Effect :=
  let u := freqOperand p
  if u.bad then replyLog ts .malformedBcd (instrWord (.setfreq p)) [0x00]
  else replyNotify (setActiveFreq u.f ts) [0x00]

/-- SETFREQ: its outcome, committed. -/
def execSetfreq (p : Payload) (s : State) : Host.Outcome State Fault Refusal :=
  .next (commit (setfreqOutcome p s.ts) s)

/-- GETFREQ: the active VFO in BCD, then the mode code (43_frequency_vfo.md R171). -/
def getfreqOutcome (ts : TS) : Effect :=
  let r := pack (activeFreq ts)
  reply ts [r.b0, r.b1, r.b2, r.b3, ts.mode]

/-- GETFREQ: its outcome, committed. -/
def execGetfreq (_x : Payload) (s : State) : Host.Outcome State Fault Refusal :=
  .next (commit (getfreqOutcome s.ts) s)

/-- VFOTOG: the active VFO switches and the backend is notified (43_frequency_vfo.md R172). -/
def vfotogOutcome (ts : TS) : Effect :=
  replyNotify { ts with activeVFO := otherVfo ts.activeVFO } [0x00]

/-- VFOTOG: its outcome, committed. -/
def execVfotog (_x : Payload) (s : State) : Host.Outcome State Fault Refusal :=
  .next (commit (vfotogOutcome s.ts) s)

end Sys2Proof.Machine
end

