-- ==== Sys2Proof/Machine/ModeOp.lean ====
section
/-! DEFINITION. The mode opcode SETMODE (46_mode.md). -/

namespace Sys2Proof.Machine

/-- SETMODE: a mode code is written, and notified when it differs from the current mode; any other byte is logged and leaves
TS alone; the ack is 0x00 always (46_mode.md R200). -/
def setmodeOutcome (m x1 x2 x3 : Byte) (ts : TS) : Effect :=
  if isMode m then
    if m = ts.mode then reply { ts with mode := m } [0x00] else replyNotify { ts with mode := m } [0x00]
  else replyLog ts .badMode (instrWord (.setmode m x1 x2 x3)) [0x00]

/-- SETMODE: its outcome, committed. -/
def execSetmode (m x1 x2 x3 : Byte) (s : State) : Host.Outcome State Fault Refusal :=
  .next (commit (setmodeOutcome m x1 x2 x3 s.ts) s)

end Sys2Proof.Machine
end

