-- ==== Sys2Proof/Machine/StatusReads.lean ====
section
/-! DEFINITION. The status read opcodes TXSTAT, RXSTAT, RDEEPROM, GETKEY (44_status_reads.md): none writes TS, notifies or logs. -/

namespace Sys2Proof.Machine

/-- TXSTAT: bit 7 = not ptt, bit 5 = split, the other bits 0 (44_status_reads.md R180). -/
def txstatOutcome (ts : TS) : Effect :=
  reply ts [txStatusByte ts.ptt ts.split]

/-- TXSTAT: its outcome, committed. -/
def execTxstat (_x : Payload) (s : State) : Host.Outcome State Fault Refusal :=
  .next (commit (txstatOutcome s.ts) s)

/-- RXSTAT: the constant byte 0x00 (44_status_reads.md R181). -/
def rxstatOutcome (ts : TS) : Effect :=
  reply ts [0x00]

/-- RXSTAT: its outcome, committed. -/
def execRxstat (_x : Payload) (s : State) : Host.Outcome State Fault Refusal :=
  .next (commit (rxstatOutcome s.ts) s)

/-- RDEEPROM: the constant bytes 0x00 0x00 (44_status_reads.md R182). -/
def rdeepromOutcome (ts : TS) : Effect :=
  reply ts [0x00, 0x00]

/-- RDEEPROM: its outcome, committed. -/
def execRdeeprom (_x : Payload) (s : State) : Host.Outcome State Fault Refusal :=
  .next (commit (rdeepromOutcome s.ts) s)

/-- GETKEY: 0xF0 when PTT is on, else 0x00 (44_status_reads.md R183). -/
def getkeyOutcome (ts : TS) : Effect :=
  reply ts [ackIf ts.ptt]

/-- GETKEY: its outcome, committed. -/
def execGetkey (_x : Payload) (s : State) : Host.Outcome State Fault Refusal :=
  .next (commit (getkeyOutcome s.ts) s)

end Sys2Proof.Machine
end

