-- ==== Sys2Proof/Machine/Toggles.lean ====
section
/-! DEFINITION. The flag opcodes with acknowledgement (45_toggles.md). Each ack byte is given by its own rule (R197). -/

namespace Sys2Proof.Machine

/-- LOCKTOG: lock inverts; 0xF0 if the NEW value is locked (45_toggles.md R190). -/
def locktogOutcome (ts : TS) : Effect :=
  reply { ts with lock := !ts.lock } [ackIf (!ts.lock)]

/-- LOCKTOG: its outcome, committed. -/
def execLocktog (_x : Payload) (s : State) : Host.Outcome State Fault Refusal :=
  .next (commit (locktogOutcome s.ts) s)

/-- SPLITON: split inverts, despite the name; 0xF0 if it was on (45_toggles.md R191). -/
def splitonOutcome (ts : TS) : Effect :=
  reply { ts with split := !ts.split } [ackIf ts.split]

/-- SPLITON: its outcome, committed. -/
def execSpliton (_x : Payload) (s : State) : Host.Outcome State Fault Refusal :=
  .next (commit (splitonOutcome s.ts) s)

/-- SPLITOFF: split is cleared; the ack depends on the prior value and on ACK_OFF_POLARITY (45_toggles.md R192). -/
def splitoffOutcome (pol : AckOffPolarity) (ts : TS) : Effect :=
  reply { ts with split := false } [ackOffByte pol ts.split]

/-- SPLITOFF: its outcome, committed. -/
def execSplitoff (_x : Payload) (s : State) : Host.Outcome State Fault Refusal :=
  .next (commit (splitoffOutcome s.params.ackOff s.ts) s)

/-- CLARON: clar is set; 0xF0 if it was on (45_toggles.md R193). -/
def claronOutcome (ts : TS) : Effect :=
  reply { ts with clar := true } [ackIf ts.clar]

/-- CLARON: its outcome, committed. -/
def execClaron (_x : Payload) (s : State) : Host.Outcome State Fault Refusal :=
  .next (commit (claronOutcome s.ts) s)

/-- CLAROFF: clar is cleared; the ack depends on the prior value and on ACK_OFF_POLARITY (45_toggles.md R194). -/
def claroffOutcome (pol : AckOffPolarity) (ts : TS) : Effect :=
  reply { ts with clar := false } [ackOffByte pol ts.clar]

/-- CLAROFF: its outcome, committed. -/
def execClaroff (_x : Payload) (s : State) : Host.Outcome State Fault Refusal :=
  .next (commit (claroffOutcome s.params.ackOff s.ts) s)

/-- PTTON: ptt is set; 0xF0 if it was on; no notification (45_toggles.md R195). -/
def pttonOutcome (ts : TS) : Effect :=
  reply { ts with ptt := true } [ackIf ts.ptt]

/-- PTTON: its outcome, committed. -/
def execPtton (_x : Payload) (s : State) : Host.Outcome State Fault Refusal :=
  .next (commit (pttonOutcome s.ts) s)

/-- PTTOFF: ptt is cleared; 0x00 if it was on, else 0xF0, whatever ACK_OFF_POLARITY (45_toggles.md R196). -/
def pttoffOutcome (ts : TS) : Effect :=
  reply { ts with ptt := false } [if ts.ptt then 0x00 else 0xF0]

/-- PTTOFF: its outcome, committed. -/
def execPttoff (_x : Payload) (s : State) : Host.Outcome State Fault Refusal :=
  .next (commit (pttoffOutcome s.ts) s)

end Sys2Proof.Machine
end

