-- ==== Sys2Proof/Machine/Unsupported.lean ====
section
/-! DEFINITION. The unsupported, stub and unknown opcodes (47_unsupported_stub.md): none writes TS or notifies. -/

namespace Sys2Proof.Machine

/-- The behaviour the 11 unsupported opcodes share: no TS change, no response, Log(EV_UNSUPPORTED, W)
(47_unsupported_stub.md R210). -/
def unsupportedOutcome (w : FrameWord) (ts : TS) : Effect := replyLog ts .unsupported w []

/-- UNS_09: as every unsupported opcode (47_unsupported_stub.md R211). -/
def execUns09 (x : Payload) (s : State) : Host.Outcome State Fault Refusal :=
  .next (commit (unsupportedOutcome (instrWord (.uns09 x)) s.ts) s)

/-- UNS_0A: as every unsupported opcode (47_unsupported_stub.md R212). -/
def execUns0A (x : Payload) (s : State) : Host.Outcome State Fault Refusal :=
  .next (commit (unsupportedOutcome (instrWord (.uns0A x)) s.ts) s)

/-- UNS_0B: as every unsupported opcode (47_unsupported_stub.md R213). -/
def execUns0B (x : Payload) (s : State) : Host.Outcome State Fault Refusal :=
  .next (commit (unsupportedOutcome (instrWord (.uns0B x)) s.ts) s)

/-- UNS_0C: as every unsupported opcode (47_unsupported_stub.md R214). -/
def execUns0C (x : Payload) (s : State) : Host.Outcome State Fault Refusal :=
  .next (commit (unsupportedOutcome (instrWord (.uns0C x)) s.ts) s)

/-- UNS_0F: as every unsupported opcode (47_unsupported_stub.md R215). -/
def execUns0F (x : Payload) (s : State) : Host.Outcome State Fault Refusal :=
  .next (commit (unsupportedOutcome (instrWord (.uns0F x)) s.ts) s)

/-- UNS_8F: as every unsupported opcode (47_unsupported_stub.md R216). -/
def execUns8F (x : Payload) (s : State) : Host.Outcome State Fault Refusal :=
  .next (commit (unsupportedOutcome (instrWord (.uns8F x)) s.ts) s)

/-- UNS_A7: as every unsupported opcode (47_unsupported_stub.md R217). -/
def execUnsA7 (x : Payload) (s : State) : Host.Outcome State Fault Refusal :=
  .next (commit (unsupportedOutcome (instrWord (.unsA7 x)) s.ts) s)

/-- UNS_BA: as every unsupported opcode (47_unsupported_stub.md R218). -/
def execUnsBA (x : Payload) (s : State) : Host.Outcome State Fault Refusal :=
  .next (commit (unsupportedOutcome (instrWord (.unsBA x)) s.ts) s)

/-- UNS_BC: as every unsupported opcode (47_unsupported_stub.md R219). -/
def execUnsBC (x : Payload) (s : State) : Host.Outcome State Fault Refusal :=
  .next (commit (unsupportedOutcome (instrWord (.unsBC x)) s.ts) s)

/-- UNS_BE: as every unsupported opcode (47_unsupported_stub.md R220). -/
def execUnsBE (x : Payload) (s : State) : Host.Outcome State Fault Refusal :=
  .next (commit (unsupportedOutcome (instrWord (.unsBE x)) s.ts) s)

/-- UNS_F9: as every unsupported opcode (47_unsupported_stub.md R221). -/
def execUnsF9 (x : Payload) (s : State) : Host.Outcome State Fault Refusal :=
  .next (commit (unsupportedOutcome (instrWord (.unsF9 x)) s.ts) s)

/-- TXMETER: the constant byte 0x00 in every state (47_unsupported_stub.md R222). -/
def txmeterOutcome (ts : TS) : Effect :=
  reply ts [0x00]

/-- TXMETER: its outcome, committed. -/
def execTxmeter (_x : Payload) (s : State) : Host.Outcome State Fault Refusal :=
  .next (commit (txmeterOutcome s.ts) s)

/-- SETCLARF: the constant byte 0x00; no offset exists and clar is unchanged (47_unsupported_stub.md R223). -/
def setclarfOutcome (ts : TS) : Effect :=
  reply ts [0x00]

/-- SETCLARF: its outcome, committed. -/
def execSetclarf (_x : Payload) (s : State) : Host.Outcome State Fault Refusal :=
  .next (commit (setclarfOutcome s.ts) s)

/-- UNKNOWN: no response, no TS change, the frame is logged (47_unsupported_stub.md R224). -/
def unknownOutcome (op : Byte) (x : Payload) (ts : TS) : Effect :=
  replyLog ts .unknownOpcode (instrWord (.unknown op x)) []

/-- UNKNOWN: its outcome, committed. -/
def execUnknown (op : Byte) (x : Payload) (s : State) : Host.Outcome State Fault Refusal :=
  .next (commit (unknownOutcome op x s.ts) s)

end Sys2Proof.Machine
end

