-- ==== Sys2Proof/Machine/Dispatch.lean ====
section
/-! DEFINITION. The dispatch of an instruction to its meaning: one arm per constructor of Instr. -/

namespace Sys2Proof.Machine

def exec (i : Instr) (s : State) : Host.Outcome State Fault Refusal :=
  match i with
  | .setfreq p => Sys2Proof.Machine.execSetfreq p s
  | .getfreq x => Sys2Proof.Machine.execGetfreq x s
  | .txstat x => Sys2Proof.Machine.execTxstat x s
  | .rxstat x => Sys2Proof.Machine.execRxstat x s
  | .rdeeprom x => Sys2Proof.Machine.execRdeeprom x s
  | .vfotog x => Sys2Proof.Machine.execVfotog x s
  | .locktog x => Sys2Proof.Machine.execLocktog x s
  | .spliton x => Sys2Proof.Machine.execSpliton x s
  | .splitoff x => Sys2Proof.Machine.execSplitoff x s
  | .claron x => Sys2Proof.Machine.execClaron x s
  | .claroff x => Sys2Proof.Machine.execClaroff x s
  | .setmode m x1 x2 x3 => Sys2Proof.Machine.execSetmode m x1 x2 x3 s
  | .ptton x => Sys2Proof.Machine.execPtton x s
  | .pttoff x => Sys2Proof.Machine.execPttoff x s
  | .getkey x => Sys2Proof.Machine.execGetkey x s
  | .uns09 x => Sys2Proof.Machine.execUns09 x s
  | .uns0A x => Sys2Proof.Machine.execUns0A x s
  | .uns0B x => Sys2Proof.Machine.execUns0B x s
  | .uns0C x => Sys2Proof.Machine.execUns0C x s
  | .uns0F x => Sys2Proof.Machine.execUns0F x s
  | .uns8F x => Sys2Proof.Machine.execUns8F x s
  | .unsA7 x => Sys2Proof.Machine.execUnsA7 x s
  | .unsBA x => Sys2Proof.Machine.execUnsBA x s
  | .unsBC x => Sys2Proof.Machine.execUnsBC x s
  | .unsBE x => Sys2Proof.Machine.execUnsBE x s
  | .unsF9 x => Sys2Proof.Machine.execUnsF9 x s
  | .txmeter x => Sys2Proof.Machine.execTxmeter x s
  | .setclarf x => Sys2Proof.Machine.execSetclarf x s
  | .unknown op x => Sys2Proof.Machine.execUnknown op x s

end Sys2Proof.Machine
end

