-- ==== Sys2Proof/Machine/Ports.lean ====
section
/-! DEFINITION. The internal step Dispatch (42_dispatch.md R140, R143), the port interface (10_state.md R41 to R47, R52) and
one clock cycle of it (60_exceptions.md R241, 70_reset_and_hazards.md R260): a cycle performs steps of R50 in the order of
R241, so that its trace is a trace of those steps (R51). -/

namespace Sys2Proof.Machine

/-- Dispatch: when it is enabled, the complete frame is decoded and its instruction runs; otherwise nothing happens
(42_dispatch.md R140, R143). -/
def dispatchStep (s : State) : Host.Outcome State Fault Refusal :=
  if dispatchEnabled s then exec (fetchInstr s) s else .next s

/-- The output ports of one clock cycle (10_state.md R41). -/
structure PortOut where
  rxReady : Bool
  txData : Byte
  txValid : Bool
  beReq : Bool
  beShutdown : Bool
  tsVfoA : Hz
  tsVfoB : Hz
  tsActiveVfo : Bool
  tsMode : Byte
  tsPtt : Bool
  tsSplit : Bool
  tsClar : Bool
  tsLock : Bool
  logValid : Bool
  logCause : BitVec 3
  logSev : BitVec 2
  logFrame : FrameWord
  halted : Bool
  deriving DecidableEq, Repr

/-- `xport_err`, then `terminate`, which acts only if `xport_err` did not already halt the block
(60_exceptions.md R241 items 2 and 3; 10_state.md R47). -/
def preempt (p : PortIn) (s : State) : State :=
  let s1 := if p.xportErr then xportErr s else s
  if p.terminate then terminate s1 else s1

/-- `tx_valid` while `rst = 0` (10_state.md R44). -/
def txValid (s : State) : Bool := !s.halted && !s.txq.isEmpty

/-- The stream transfers and the backend handshake of a cycle (60_exceptions.md R241 item 4; 10_state.md R42 to R45), each on
the signals as they stand once items 2 and 3 have taken effect. -/
def transfers (p : PortIn) (s : State) : State :=
  let s1 := if p.txReady && txValid s then txByte s else s
  let s2 := if p.rxValid && rxReady s then rxByte p.rxData s1 else s1
  if p.beAck && beReq s then beAck s2 else s2

/-- The dispatch of a cycle (60_exceptions.md R241 item 4): performed when it was enabled as the cycle began and the
implementation takes it now (10_state.md R51). Transfers of the same cycle cannot change its frame: while `valid = 1` no byte is
accepted. -/
def cycleDispatch (dispatchNow : Bool) (before s : State) : Host.Outcome State Fault Refusal :=
  if dispatchNow && dispatchEnabled before then exec (fetchInstr s) s else .next s

/-- `be_fail`, last (60_exceptions.md R241 item 5; 10_state.md R47). -/
def cycleBeFail (p : PortIn) (s : State) : State := if p.beFail then beFail s else s

/-- The steps of one clock cycle with `rst = 0`, in the order of 60_exceptions.md R241. -/
def cycleSteps (dispatchNow : Bool) (p : PortIn) (s : State) : Host.Outcome State Fault Refusal :=
  match cycleDispatch dispatchNow (preempt p s) (transfers p (preempt p s)) with
  | .next t => .next (cycleBeFail p t)
  | .fault r => .fault r
  | .refused r => .refused r

/-- The record of a log event. -/
def logOfEvent : Event → Option LogRecord
  | .log r => some r
  | _ => none

/-- The log events that are in the trace of `t` beyond the trace of `s`, oldest first. -/
def newLogs (s t : State) : List LogRecord := (t.trace.drop s.trace.length).filterMap logOfEvent

/-- The log records waiting for the log port in the cycle that goes from `s` to `t`; the port shows the first
(60_exceptions.md R241: one event per cycle, the others in later cycles, in order). -/
def logWaiting (s t : State) : List LogRecord := s.logQueue ++ newLogs s t

/-- The end of a clock cycle: the log record shown in it leaves the queue (60_exceptions.md R241). -/
def endCycle (s t : State) : State := { t with logQueue := (logWaiting s t).tail, cycles := s.cycles + 1 }

/-- True when the next thing scheduled is again a clock cycle with `rst = 1`, so that a cycle with `rst = 1` performed now is
not the last of its reset (10_state.md R53; log entry 12). -/
def rstHeld (s : State) : Bool :=
  match s.sched with
  | .cycle _ p :: _ => p.rst
  | _ => false

/-- A clock cycle with `rst = 1`: nothing but the passing of the cycle while the reset is held, and in its last cycle Reset
with the configuration sampled there (70_reset_and_hazards.md R260; 10_state.md R53; log entry 12). -/
def resetCycle (cfg : Cfg) (s : State) : Host.Outcome State Fault Refusal :=
  if rstHeld s then .next { s with cycles := s.cycles + 1 }
  else
    match resetStep cfg s with
    | .next t => .next { t with cycles := s.cycles + 1 }
    | .fault r => .fault r
    | .refused r => .refused r

/-- One clock cycle. `rst = 1` overrides everything else and emits nothing (60_exceptions.md R241 item 1). -/
def clockCycle (dispatchNow : Bool) (p : PortIn) (s : State) : Host.Outcome State Fault Refusal :=
  if p.rst then resetCycle p.cfg s
  else
    match cycleSteps dispatchNow p s with
    | .next t => .next (endCycle s t)
    | .fault r => .fault r
    | .refused r => .refused r

/-- The log record on the log port in a cycle, if any; none while `rst = 1` (10_state.md R46, 70_reset_and_hazards.md R260). -/
def logShown (dispatchNow : Bool) (p : PortIn) (s : State) : Option LogRecord :=
  if p.rst then none
  else
    match cycleSteps dispatchNow p s with
    | .next t => (logWaiting s t).head?
    | .fault _ => none
    | .refused _ => none

/-- The state that decides the stream transfers of a cycle: `xport_err` and `terminate` act in the cycle they come in, before
the block's own transfers (60_exceptions.md R241; log entry 11). -/
def portState (p : PortIn) (s : State) : State := if p.rst then s else preempt p s

/-- The output ports of a clock cycle that begins in state `s` (10_state.md R41 to R47, R52). `be_req`, `ts_*` and `halted` show
the registers as the cycle begins, so that every Notify is a rise of `be_req` (R45); `rx_ready` and `tx_valid` are 0 in the
cycle that halts, because R241 lets it transfer nothing, and `be_shutdown` is 1 in it (R47; log entry 11). The data ports of a
stream or of the log are FREE VALUES while their valid signal is 0 (R44, I13; log entry 14). -/
def portOut (dispatchNow : Bool) (p : PortIn) (s : State) : PortOut :=
  let q := portState p s
  let tv := !p.rst && txValid q
  let shown := logShown dispatchNow p s
  { rxReady := !p.rst && rxReady q
    txValid := tv
    txData := if tv then q.txq.headD (Config.txDataWhenInvalid s.cycles) else Config.txDataWhenInvalid s.cycles
    beReq := beReq s
    beShutdown := q.halted && !s.halted
    tsVfoA := s.ts.vfoA
    tsVfoB := s.ts.vfoB
    tsActiveVfo := vfoBit s.ts.activeVFO
    tsMode := s.ts.mode
    tsPtt := s.ts.ptt
    tsSplit := s.ts.split
    tsClar := s.ts.clar
    tsLock := s.ts.lock
    logValid := shown.isSome
    logCause := match shown with
      | some r => causeCode r.cause
      | none => Config.logCauseWhenInvalid s.cycles
    logSev := match shown with
      | some r => severityCode r.sev
      | none => Config.logSevWhenInvalid s.cycles
    logFrame := match shown with
      | some r => r.word
      | none => Config.logFrameWhenInvalid s.cycles
    halted := s.halted }

/-- Performs one scheduled step of 10_state.md R50, or one clock cycle. -/
def perform (m : Move) (s : State) : Host.Outcome State Fault Refusal :=
  match m with
  | .reset cfg => resetStep cfg s
  | .rx => .next (rxOffer s)
  | .dispatch => dispatchStep s
  | .beAck => .next (beAck s)
  | .tx => .next (txByte s)
  | .beFail => .next (beFail s)
  | .xportErr => .next (xportErr s)
  | .terminate => .next (terminate s)
  | .cycle dispatchNow p => clockCycle dispatchNow p s

/-- The schedule without the step that is being performed. -/
def takeMove (rest : List Move) (s : State) : State := { s with sched := rest }

/-- One step of the model: the next scheduled one; with nothing scheduled the block's own step, Dispatch, if it is enabled,
and otherwise the block waits (10_state.md R20, R50; 42_dispatch.md R156; log entry 6). -/
def nextStep (s : State) : Host.Outcome State Fault Refusal :=
  match s.sched with
  | [] => dispatchStep s
  | m :: rest => perform m (takeMove rest s)

end Sys2Proof.Machine
end

