-- ==== Sys2Proof/Machine/Step.lean ====
section
/-! DEFINITION. The step function, and the placing of one instruction where the next step runs it. -/

namespace Sys2Proof.Machine

/-- One step of the machine (10_state.md R50, R51). -/
def step (s : State) : Host.Outcome State Fault Refusal := nextStep s

/-- `s` with the frame that `w` stands for, numbered as spec/opcode_table.json numbers it, complete in the frame shift
register and the Dispatch of it as the very next step (41_frame_assembler.md R123; log entry 7). -/
def State.withFetchWord (s : State) (nbits w : Nat) : State := placeFrame (frameOfTableWord nbits w) s

end Sys2Proof.Machine
end

