-- ==== Sys2Proof/Machine/Assembler.lean ====
section
/-! DEFINITION. The assembler notation of 30_encoding.md R92 to R94: from a line of text to the bytes it stands for. It is the
spec's own notation for frames and no part of the block; what its grammar leaves open is in log entry 19. -/

namespace Sys2Proof.Machine

/-- One line of assembly (30_encoding.md R92, R93). -/
inductive AsmLine where
  /-- `SETFREQ <hz>`. -/
  | setfreq (hz : Int)
  /-- `SETMODE <name>`. -/
  | setmodeName (m : ModeName)
  /-- `SETMODE 0xNN`. -/
  | setmodeCode (n : Nat)
  /-- A mnemonic without an operand, by its opcode. -/
  | plain (op : Byte)
  /-- `.frame b0, b1, b2, b3, b4`. -/
  | frame (bs : List Nat)
  /-- `.raw b...`. -/
  | raw (bs : List Nat)
  /-- `SETFREQ.B <hz>`. -/
  | setfreqB (hz : Int)
  deriving DecidableEq, Repr

/-- Why the assembler refuses a line. -/
inductive AsmError where
  /-- The first word is no mnemonic or directive of R92 and R93. -/
  | unknownWord
  /-- The operands are too many, too few, or no number or name. -/
  | badSyntax
  /-- A SETFREQ operand that is negative, not a multiple of 10, or above 999,999,990 (R94). -/
  | badFrequency
  /-- A SETMODE operand that is neither a mode name nor a byte (R94). -/
  | badMode
  /-- A literal that is no byte, or a `.frame` that has not five. -/
  | badByte
  deriving DecidableEq, Repr

/-- The mnemonics without an operand and their opcodes (30_encoding.md R92). -/
def plainMnemonics : List (String × Byte) :=
  [("getfreq", 0x03), ("txstat", 0xF7), ("rxstat", 0xE7), ("rdeeprom", 0xBB), ("vfotog", 0x81), ("locktog", 0x00),
   ("spliton", 0x02), ("splitoff", 0x82), ("claron", 0x05), ("claroff", 0x85), ("ptton", 0x08), ("pttoff", 0x88),
   ("getkey", 0x10), ("txmeter", 0xBD), ("setclarf", 0xF5), ("uns_09", 0x09), ("uns_0a", 0x0A), ("uns_0b", 0x0B),
   ("uns_0c", 0x0C), ("uns_0f", 0x0F), ("uns_8f", 0x8F), ("uns_a7", 0xA7), ("uns_ba", 0xBA), ("uns_bc", 0xBC),
   ("uns_be", 0xBE), ("uns_f9", 0xF9)]

/-- The mode names (30_encoding.md R92). -/
def modeNames : List (String × ModeName) :=
  [("lsb", .lsb), ("usb", .usb), ("cw", .cw), ("cwr", .cwr), ("am", .am), ("fm", .fm), ("dig", .dig), ("pkt", .pkt)]

/-- The frame of SETFREQ, or a refusal (30_encoding.md R92, R94). -/
def assembleFreq (hz : Int) : Except AsmError (List Byte) :=
  if 0 ≤ hz ∧ hz % 10 = 0 ∧ hz ≤ 999999990 then
    let r := pack (BitVec.ofInt 32 hz)
    .ok [r.b0, r.b1, r.b2, r.b3, 0x01]
  else .error .badFrequency

/-- Literal bytes, or a refusal. -/
def assembleBytes (bs : List Nat) : Except AsmError (List Byte) :=
  if bs.all (fun n => decide (n < 256)) then .ok (bs.map (BitVec.ofNat 8)) else .error .badByte

/-- The frame of VFOTOG as the assembler writes it (30_encoding.md R92). -/
def vfotogBytes : List Byte := [0x00, 0x00, 0x00, 0x00, 0x81]

/-- The bytes of a line (30_encoding.md R92, R93), or a refusal (R94). Ignored bytes are written 0x00 (R86). -/
def assembleLine : AsmLine → Except AsmError (List Byte)
  | .setfreq hz => assembleFreq hz
  | .setmodeName m => .ok [modeCode m, 0x00, 0x00, 0x00, 0x07]
  | .setmodeCode n => if n < 256 then .ok [BitVec.ofNat 8 n, 0x00, 0x00, 0x00, 0x07] else .error .badMode
  | .plain op =>
    if (plainMnemonics.map Prod.snd).contains op then .ok [0x00, 0x00, 0x00, 0x00, op] else .error .unknownWord
  | .frame bs => if bs.length = 5 then assembleBytes bs else .error .badByte
  | .raw bs => assembleBytes bs
  | .setfreqB hz =>
    match assembleFreq hz with
    | .ok f => .ok (vfotogBytes ++ f ++ vfotogBytes)
    | .error e => .error e

/-! ### Reading the text -/

/-- The words of a text, separated by the characters `sep` holds of. -/
def splitWords (sep : Char → Bool) (cs : List Char) : List (List Char) :=
  (cs.foldr (fun c acc =>
    if sep c then [] :: acc
    else match acc with
      | [] => [[c]]
      | w :: ws => (c :: w) :: ws) [[]]).filter (fun w => !w.isEmpty)

/-- The value of a digit in base `base` (at most 16), lower case. -/
def digitValue (base : Nat) (c : Char) : Option Nat :=
  let n := c.toNat
  let v := if 48 ≤ n ∧ n ≤ 57 then n - 48 else if 97 ≤ n ∧ n ≤ 102 then n - 87 else 16
  if v < base then some v else none

/-- The number a list of digits stands for; none for no digits. -/
def parseDigits (base : Nat) : List Char → Option Nat
  | [] => none
  | cs => cs.foldl (fun acc c =>
      match acc, digitValue base c with
      | some a, some d => some (a * base + d)
      | _, _ => none) (some 0)

/-- A literal `0x..`. -/
def parseHex : List Char → Option Nat
  | '0' :: 'x' :: ds => parseDigits 16 ds
  | _ => none

/-- A decimal frequency, with a sign if there is one. -/
def parseHz : List Char → Option Int
  | '-' :: ds => (parseDigits 10 ds).map fun n => -(n : Int)
  | ds => (parseDigits 10 ds).map fun n => (n : Int)

/-- A byte literal of a directive: `0x..` or decimal. -/
def parseByteLit (w : List Char) : Option Nat := (parseHex w).or (parseDigits 10 w)

/-- The words of the operands of a directive; commas separate them too (30_encoding.md R93). -/
def directiveWords (ws : List (List Char)) : List (List Char) := ws.flatMap (splitWords (· == ','))

/-- The operand of SETMODE (30_encoding.md R92, R94). -/
def parseMode (w : List Char) : Except AsmError AsmLine :=
  match modeNames.find? (fun e => e.1.toList == w) with
  | some e => .ok (.setmodeName e.2)
  | none =>
    match parseHex w with
    | some n => .ok (.setmodeCode n)
    | none => .error .badMode

/-- A line from its words, in lower case. -/
def parseWords : List (List Char) → Except AsmError AsmLine
  | [] => .error .badSyntax
  | w :: ws =>
    if w == "setfreq".toList || w == "setfreq.b".toList then
      match ws with
      | [a] =>
        match parseHz a with
        | some hz => .ok (if w == "setfreq".toList then .setfreq hz else .setfreqB hz)
        | none => .error .badSyntax
      | _ => .error .badSyntax
    else if w == "setmode".toList then
      match ws with
      | [a] => parseMode a
      | _ => .error .badSyntax
    else if w == ".frame".toList || w == ".raw".toList then
      match (directiveWords ws).mapM parseByteLit with
      | some bs => .ok (if w == ".frame".toList then .frame bs else .raw bs)
      | none => .error .badSyntax
    else
      match plainMnemonics.find? (fun e => e.1.toList == w) with
      | some e => if ws.isEmpty then .ok (.plain e.2) else .error .badSyntax
      | none => .error .unknownWord

/-- A line of text: a comment starts with `;`, case does not matter, and an empty line stands for nothing
(30_encoding.md R92). -/
def parseLine (cs : List Char) : Except AsmError (Option AsmLine) :=
  let text := (cs.takeWhile (· != ';')).map Char.toLower
  match splitWords (fun c => c == ' ' || c == '\t' || c == '\r') text with
  | [] => .ok none
  | ws =>
    match parseWords ws with
    | .ok l => .ok (some l)
    | .error e => .error e

/-- The bytes of lines of text, in order; the first line that is refused refuses the whole. -/
def assembleTextLines : List (List Char) → Except AsmError (List Byte)
  | [] => .ok []
  | l :: ls =>
    match parseLine l with
    | .error e => .error e
    | .ok none => assembleTextLines ls
    | .ok (some a) =>
      match assembleLine a, assembleTextLines ls with
      | .ok b, .ok bs => .ok (b ++ bs)
      | .error e, _ => .error e
      | _, .error e => .error e

/-- The bytes of a program text, one frame or directive a line (30_encoding.md R92, R93). -/
def assembleText (t : String) : Except AsmError (List Byte) :=
  assembleTextLines (splitWords (· == '\n') t.toList)

end Sys2Proof.Machine
end

