-- ==== Sys2Proof/Machine/Outcome.lean ====
section
/-! DEFINITION. `EXEC(W, TS)` of 42_dispatch.md R142 as one function of the instruction, ACK_OFF_POLARITY and TS: "It depends
on nothing else". The meanings of the families commit exactly these outcomes (Laws/Exec.lean). -/

namespace Sys2Proof.Machine

/-- The outcome of an instruction, EXEC(W, TS) (42_dispatch.md R142). -/
def outcome (i : Instr) (pol : AckOffPolarity) (ts : TS) : Effect :=
  match i with
  | .setfreq p => setfreqOutcome p ts
  | .getfreq _ => getfreqOutcome ts
  | .txstat _ => txstatOutcome ts
  | .rxstat _ => rxstatOutcome ts
  | .rdeeprom _ => rdeepromOutcome ts
  | .vfotog _ => vfotogOutcome ts
  | .locktog _ => locktogOutcome ts
  | .spliton _ => splitonOutcome ts
  | .splitoff _ => splitoffOutcome pol ts
  | .claron _ => claronOutcome ts
  | .claroff _ => claroffOutcome pol ts
  | .setmode m x1 x2 x3 => setmodeOutcome m x1 x2 x3 ts
  | .ptton _ => pttonOutcome ts
  | .pttoff _ => pttoffOutcome ts
  | .getkey _ => getkeyOutcome ts
  | .uns09 x => unsupportedOutcome (instrWord (.uns09 x)) ts
  | .uns0A x => unsupportedOutcome (instrWord (.uns0A x)) ts
  | .uns0B x => unsupportedOutcome (instrWord (.uns0B x)) ts
  | .uns0C x => unsupportedOutcome (instrWord (.uns0C x)) ts
  | .uns0F x => unsupportedOutcome (instrWord (.uns0F x)) ts
  | .uns8F x => unsupportedOutcome (instrWord (.uns8F x)) ts
  | .unsA7 x => unsupportedOutcome (instrWord (.unsA7 x)) ts
  | .unsBA x => unsupportedOutcome (instrWord (.unsBA x)) ts
  | .unsBC x => unsupportedOutcome (instrWord (.unsBC x)) ts
  | .unsBE x => unsupportedOutcome (instrWord (.unsBE x)) ts
  | .unsF9 x => unsupportedOutcome (instrWord (.unsF9 x)) ts
  | .txmeter _ => txmeterOutcome ts
  | .setclarf _ => setclarfOutcome ts
  | .unknown op x => unknownOutcome op x ts

end Sys2Proof.Machine
end

