-- ==== Sys2Proof/Safety.lean ====
section
/-! DEFINITION. What counts as a good state and a safe run: the invariants of 10_state.md R30 and R40, the quiescent state of
42_dispatch.md R155, and the schedule of an eager host (95_test_vectors.md). -/

namespace Sys2Proof.Machine

/-- The TS invariants of 10_state.md R30. -/
abbrev TsInv (ts : TS) : Prop :=
  (ts.vfoA.toNat % 10 = 0 ∧ ts.vfoA.toNat ≤ 999999990) ∧
  (ts.vfoB.toNat % 10 = 0 ∧ ts.vfoB.toNat ≤ 999999990) ∧
  isMode ts.mode = true

/-- A legal value of TXQ_DEPTH: at least 5, or unbounded (00_scope.md R9). -/
abbrev ParamsLegal (p : Params) : Prop := (p.txqDepth.all fun d => Nat.ble 5 d) = true

/-- `n` response bytes are within TXQ_DEPTH. -/
abbrev WithinDepth (p : Params) (n : Nat) : Prop := (p.txqDepth.all fun d => Nat.ble n d) = true

/-- The control invariants of 10_state.md R34 and R40. The bound on `txq` counts the held response too: "room was reserved by
rule R140" (42_dispatch.md R144). -/
abbrev CtlInv (s : State) : Prop :=
  s.count.toNat ≤ 4 ∧
  (s.valid = true → s.count = 0) ∧
  (s.phase = .waitBe → s.valid = true ∧ s.pend ≠ []) ∧
  (s.phase = .idle → s.pend = []) ∧
  WithinDepth s.params (s.txq.length + s.pend.length)

/-- The invariant of every reachable state: legal parameters, R30, R34 and R40. -/
abbrev StateInv (s : State) : Prop := ParamsLegal s.params ∧ TsInv s.ts ∧ CtlInv s

/-- The quiescent state of 42_dispatch.md R155, as far as one state shows it. -/
abbrev Quiescent (s : State) : Prop := s.valid = false ∧ s.phase = .idle ∧ s.txq = []

/-- A scheduled step whose configuration, if it is a reset, is legal (70_reset_and_hazards.md R262, R275). -/
def moveLegal : Move → Bool
  | .reset cfg => cfgLegal cfg
  | .cycle _ p => !p.rst || cfgLegal p.cfg
  | .rx => true
  | .dispatch => true
  | .beAck => true
  | .tx => true
  | .beFail => true
  | .xportErr => true
  | .terminate => true

/-- The host keeps its duty to give legal configurations in everything scheduled (70_reset_and_hazards.md R275). -/
abbrev SchedLegal (s : State) : Prop := s.sched.all moveLegal = true

/-- True of the scheduled steps that can be a Reset (70_reset_and_hazards.md R260). -/
def isResetMove : Move → Bool
  | .reset _ => true
  | .cycle _ p => p.rst
  | .rx => false
  | .dispatch => false
  | .beAck => false
  | .tx => false
  | .beFail => false
  | .xportErr => false
  | .terminate => false

/-- `n` steps of the machine, stopping at the first fault or refusal. -/
abbrev runSteps (n : Nat) (s : State) : Host.Outcome State Fault Refusal := Host.Core.run Sys2Proof.core n s

/-- The response bytes that have left on the transport, oldest first (42_dispatch.md R152, R154). -/
def sentBytes (trace : List Event) : List Byte :=
  trace.filterMap fun
    | .tx b => some b
    | .notify => none
    | .log _ => none
    | .shutdown => none

/-- The host steps that see one frame through, when the host is eager (95_test_vectors.md): its five bytes, the dispatch, the
backend's acknowledgement and up to RESP_MAX response bytes. Steps that are not enabled do nothing. -/
def eagerFrame : List Move :=
  [.rx, .rx, .rx, .rx, .rx, .dispatch, .beAck, .tx, .tx, .tx, .tx, .tx]

/-- The steps that bring any running block to quiescence without a further request byte: the backend acknowledges, the
transport takes `n` bytes, the block dispatches, and both hosts serve that dispatch (70_reset_and_hazards.md R275). -/
def drainMoves (n : Nat) : List Move :=
  [.beAck] ++ List.replicate n .tx ++ [.dispatch, .beAck, .tx, .tx, .tx, .tx, .tx]

end Sys2Proof.Machine
end

