-- ==== Sys2Proof/Certificates/Slice0/Obligations.lean ====
section
/-! DEFINITION. The statements for the provers. Each docstring names the rule of spec/ it formalises, or what it is derived
from. The states a dispatch leads to are written out here, field by field, from 42_dispatch.md R143. -/

namespace Sys2Proof.Machine

/-- `s` after a dispatch that neither logs nor notifies: TS written, the response queued, the assembler free
(42_dispatch.md R143); every other field as before. -/
def afterReply (s : State) (ts : TS) (resp : List Byte) : State :=
  { s with ts := ts, txq := s.txq ++ resp, valid := false }

/-- `s` after a dispatch that notifies: TS written, Notify emitted, the response held, WAIT_BE, `valid` still as it was
(42_dispatch.md R143); every other field as before. -/
def afterNotify (s : State) (ts : TS) (resp : List Byte) : State :=
  { s with ts := ts, trace := s.trace ++ [.notify], pend := resp, phase := .waitBe }

/-- `s` after a dispatch that logs: TS unchanged, one log event, the response queued, the assembler free
(42_dispatch.md R143, 60_exceptions.md R238); every other field as before. -/
def afterLog (s : State) (c : Cause) (sev : Severity) (w : FrameWord) (resp : List Byte) : State :=
  { s with trace := s.trace ++ [.log { cause := c, sev := sev, word := w }], txq := s.txq ++ resp, valid := false }

/-- The events an outcome adds to the trace before its response leaves: Log, then Notify (20_memory.md R69). -/
def outcomeEvents (e : Effect) : List Event :=
  (match e.ev with
    | some (c, w) => [.log { cause := c, sev := causeSeverity c, word := w }]
    | none => []) ++ (if e.notify then [.notify] else [])

/-- TS and the events of a list of frames served one after the other, each to its end (20_memory.md R68). -/
def framesOutput (pol : AckOffPolarity) : TS → List Frame → TS × List Event
  | ts, [] => (ts, [])
  | ts, f :: fs =>
    let e := outcome (decodeFrame f) pol ts
    let rest := framesOutput pol e.ts fs
    (rest.1, outcomeEvents e ++ e.resp.map .tx ++ rest.2)

/-- The frame word of five bytes in arrival order, `d0 ‖ d1 ‖ d2 ‖ d3 ‖ d4` (00_scope.md R13). -/
def bytesWord (d0 d1 d2 d3 d4 : Byte) : FrameWord := d0 ++ d1 ++ d2 ++ d3 ++ d4

/-- The response lengths as the table of 42_dispatch.md R141 lists them. -/
def rlenTable (op : Byte) : Nat :=
  if op = 0x03 then 5
  else if op = 0xBB then 2
  else if ([0x01, 0xF7, 0xE7, 0x81, 0x00, 0x02, 0x82, 0x05, 0x85, 0x07, 0x08, 0x88, 0x10, 0xBD, 0xF5] : List Byte).contains op
    then 1
  else 0

/-- An input frame of clock signals in which nothing but the clock happens. -/
abbrev QuietIn (p : PortIn) : Prop :=
  p.rst = false ∧ p.rxValid = false ∧ p.txReady = false ∧ p.beAck = false ∧ p.beFail = false ∧ p.xportErr = false ∧
  p.terminate = false

/-- Two states agree on all the state the spec gives the block, its parameters and its trace (10_state.md R20 to R40,
42_dispatch.md R154). -/
abbrev SameBlock (s t : State) : Prop :=
  s.params = t.params ∧ s.ts = t.ts ∧ s.sr = t.sr ∧ s.count = t.count ∧ s.valid = t.valid ∧ s.phase = t.phase ∧
  s.pend = t.pend ∧ s.txq = t.txq ∧ s.halted = t.halted ∧ s.trace = t.trace

/-- The next step performs a Dispatch, and it is enabled (42_dispatch.md R140): with nothing scheduled, as the scheduled step, or
in a clock cycle that takes it and is neither one of a reset nor one that halts (60_exceptions.md R241). -/
abbrev PerformsDispatch (s : State) : Prop :=
  (s.halted = false ∧ s.valid = true ∧ s.phase = .idle ∧ hasRoom s (rlen s.sr.d4) = true) ∧
  (s.sched = [] ∨ (∃ rest, s.sched = .dispatch :: rest) ∨
    ∃ p rest, s.sched = .cycle true p :: rest ∧ p.rst = false ∧ p.xportErr = false ∧ p.terminate = false)

/-- The response bytes in the order they leave: those that have left, those queued, those held for the backend
(20_memory.md R70). -/
def responseStream (s : State) : List Byte := sentBytes s.trace ++ s.txq ++ s.pend

/-- The cause codes, each with its severity number, as the table of 60_exceptions.md R231 lists them. -/
def causeRow : Cause → BitVec 3 × BitVec 2
  | .malformedBcd => (1, 1)
  | .badMode => (2, 1)
  | .unsupported => (3, 0)
  | .unknownOpcode => (4, 1)
  | .backendFail => (5, 2)
  | .transportFail => (6, 3)

/-- The severity numbers of 60_exceptions.md R231: 0 low, 1 warning, 2 alert, 3 fatal. -/
def severityRow : Severity → BitVec 2
  | .low => 0
  | .warning => 1
  | .alert => 2
  | .fatal => 3

/-- The steps of 10_state.md R50 that the signals of a clock cycle with `rst = 0` stand for (R42 to R47), in the order of
60_exceptions.md R241: a stream transfer where valid and ready are both 1, BeAck where `be_req` and `be_ack` are, a Dispatch
where it is enabled as the cycle begins and the implementation takes it. The order inside the transfers is log entry 11. -/
def cycleMoves (d : Bool) (p : PortIn) (s : State) : List Move :=
  (if p.xportErr then [.xportErr] else []) ++
  (if p.terminate then [.terminate] else []) ++
  (if (portOut d p s).txValid && p.txReady then [.tx] else []) ++
  (if p.rxValid && (portOut d p s).rxReady then [.rx] else []) ++
  (if (portOut d p s).beReq && p.beAck then [.beAck] else []) ++
  (if d && dispatchEnabled s then [.dispatch] else []) ++
  (if p.beFail then [.beFail] else [])

end Sys2Proof.Machine

open Sys2Proof Sys2Proof.Machine

/-! ### The instructions: the frames that decode to each one, and what its dispatch leads to, from every state -/

/-- SETFREQ, 43_frequency_vfo.md R170: a malformed payload writes nothing, logs EV_MALFORMED_BCD with the whole frame and is
acknowledged; a well-formed one is written to the active VFO only and notified, with the acknowledgement held. -/
def Obligations.SetfreqWritesActiveVfoOrLogs : Prop :=
  ∀ (p : Payload) (s : State),
    decodeFrame (p.withOp 0x01) = .setfreq p ∧
    exec (.setfreq p) s = .next
      (if (unpack p.p0 p.p1 p.p2 p.p3).bad = true then
        afterLog s .malformedBcd .warning (bytesWord p.p0 p.p1 p.p2 p.p3 0x01) [0x00]
      else match s.ts.activeVFO with
        | .A => afterNotify s { s.ts with vfoA := (unpack p.p0 p.p1 p.p2 p.p3).f } [0x00]
        | .B => afterNotify s { s.ts with vfoB := (unpack p.p0 p.p1 p.p2 p.p3).f } [0x00])

/-- GETFREQ, 43_frequency_vfo.md R171: the BCD of the active VFO, then the mode code; nothing in TS is written. -/
def Obligations.GetfreqReturnsFrequencyAndMode : Prop :=
  ∀ (x : Payload) (s : State),
    decodeFrame (x.withOp 0x03) = .getfreq x ∧
    exec (.getfreq x) s = .next
      (match s.ts.activeVFO with
        | .A => afterReply s s.ts
            [(pack s.ts.vfoA).b0, (pack s.ts.vfoA).b1, (pack s.ts.vfoA).b2, (pack s.ts.vfoA).b3, s.ts.mode]
        | .B => afterReply s s.ts
            [(pack s.ts.vfoB).b0, (pack s.ts.vfoB).b1, (pack s.ts.vfoB).b2, (pack s.ts.vfoB).b3, s.ts.mode])

/-- VFOTOG, 43_frequency_vfo.md R172: the selector inverts, the backend is always notified, the acknowledgement is held. -/
def Obligations.VfotogSwitchesAndNotifies : Prop :=
  ∀ (x : Payload) (s : State),
    decodeFrame (x.withOp 0x81) = .vfotog x ∧
    exec (.vfotog x) s = .next
      (match s.ts.activeVFO with
        | .A => afterNotify s { s.ts with activeVFO := .B } [0x00]
        | .B => afterNotify s { s.ts with activeVFO := .A } [0x00])

/-- TXSTAT, 44_status_reads.md R180: the four values of the table; nothing is written. -/
def Obligations.TxstatReportsPttAndSplit : Prop :=
  ∀ (x : Payload) (s : State),
    decodeFrame (x.withOp 0xF7) = .txstat x ∧
    exec (.txstat x) s = .next (afterReply s s.ts
      [match s.ts.ptt, s.ts.split with
        | false, false => 0x80
        | false, true => 0xA0
        | true, false => 0x00
        | true, true => 0x20])

/-- RXSTAT and RDEEPROM, 44_status_reads.md R181, R182; the stubs TXMETER and SETCLARF, 47_unsupported_stub.md R222, R223:
constant responses in every state, nothing written. -/
def Obligations.ConstantResponses : Prop :=
  ∀ (x : Payload) (s : State),
    decodeFrame (x.withOp 0xE7) = .rxstat x ∧ decodeFrame (x.withOp 0xBB) = .rdeeprom x ∧
    decodeFrame (x.withOp 0xBD) = .txmeter x ∧ decodeFrame (x.withOp 0xF5) = .setclarf x ∧
    exec (.rxstat x) s = .next (afterReply s s.ts [0x00]) ∧
    exec (.rdeeprom x) s = .next (afterReply s s.ts [0x00, 0x00]) ∧
    exec (.txmeter x) s = .next (afterReply s s.ts [0x00]) ∧
    exec (.setclarf x) s = .next (afterReply s s.ts [0x00])

/-- GETKEY, 44_status_reads.md R183. -/
def Obligations.GetkeyReportsPtt : Prop :=
  ∀ (x : Payload) (s : State),
    decodeFrame (x.withOp 0x10) = .getkey x ∧
    exec (.getkey x) s = .next (afterReply s s.ts [if s.ts.ptt = true then 0xF0 else 0x00])

/-- LOCKTOG, 45_toggles.md R190: the acknowledgement tells the NEW value. -/
def Obligations.LocktogInvertsLock : Prop :=
  ∀ (x : Payload) (s : State),
    decodeFrame (x.withOp 0x00) = .locktog x ∧
    exec (.locktog x) s = .next
      (if s.ts.lock = true then afterReply s { s.ts with lock := false } [0x00]
       else afterReply s { s.ts with lock := true } [0xF0])

/-- SPLITON, 45_toggles.md R191: it inverts, and 0xF0 says split was on. -/
def Obligations.SplitonInvertsSplit : Prop :=
  ∀ (x : Payload) (s : State),
    decodeFrame (x.withOp 0x02) = .spliton x ∧
    exec (.spliton x) s = .next
      (if s.ts.split = true then afterReply s { s.ts with split := false } [0xF0]
       else afterReply s { s.ts with split := true } [0x00])

/-- SPLITOFF, 45_toggles.md R192, under both values of ACK_OFF_POLARITY. -/
def Obligations.SplitoffClearsSplit : Prop :=
  ∀ (x : Payload) (s : State),
    decodeFrame (x.withOp 0x82) = .splitoff x ∧
    exec (.splitoff x) s = .next (afterReply s { s.ts with split := false }
      [match s.params.ackOff, s.ts.split with
        | .requested, false => 0xF0
        | .requested, true => 0x00
        | .priorValue, true => 0xF0
        | .priorValue, false => 0x00])

/-- CLARON, 45_toggles.md R193: it sets, and 0xF0 says clar was on. -/
def Obligations.ClaronSetsClar : Prop :=
  ∀ (x : Payload) (s : State),
    decodeFrame (x.withOp 0x05) = .claron x ∧
    exec (.claron x) s = .next
      (afterReply s { s.ts with clar := true } [if s.ts.clar = true then 0xF0 else 0x00])

/-- CLAROFF, 45_toggles.md R194, under both values of ACK_OFF_POLARITY. -/
def Obligations.ClaroffClearsClar : Prop :=
  ∀ (x : Payload) (s : State),
    decodeFrame (x.withOp 0x85) = .claroff x ∧
    exec (.claroff x) s = .next (afterReply s { s.ts with clar := false }
      [match s.params.ackOff, s.ts.clar with
        | .requested, false => 0xF0
        | .requested, true => 0x00
        | .priorValue, true => 0xF0
        | .priorValue, false => 0x00])

/-- PTTON and PTTOFF, 45_toggles.md R195, R196: each acknowledgement by its own rule, whatever ACK_OFF_POLARITY. -/
def Obligations.PttonSetsAndPttoffClearsPtt : Prop :=
  ∀ (x : Payload) (s : State),
    decodeFrame (x.withOp 0x08) = .ptton x ∧ decodeFrame (x.withOp 0x88) = .pttoff x ∧
    exec (.ptton x) s = .next (afterReply s { s.ts with ptt := true } [if s.ts.ptt = true then 0xF0 else 0x00]) ∧
    exec (.pttoff x) s = .next (afterReply s { s.ts with ptt := false } [if s.ts.ptt = true then 0x00 else 0xF0])

/-- SETMODE, 46_mode.md R200: a code of the table of 10_state.md R25 is written, and notified iff it differs from the current
mode; every other byte is logged and leaves TS alone; the acknowledgement is 0x00 in each case. -/
def Obligations.SetmodeWritesKnownModes : Prop :=
  ∀ (m x1 x2 x3 : Byte) (s : State),
    decodeFrame ⟨m, x1, x2, x3, 0x07⟩ = .setmode m x1 x2 x3 ∧
    exec (.setmode m x1 x2 x3) s = .next
      (if ([0x00, 0x01, 0x02, 0x03, 0x04, 0x08, 0x0A, 0x0C] : List Byte).contains m = true then
        (if m = s.ts.mode then afterReply s { s.ts with mode := m } [0x00]
         else afterNotify s { s.ts with mode := m } [0x00])
      else afterLog s .badMode .warning (bytesWord m x1 x2 x3 0x07) [0x00])

/-- The 11 unsupported opcodes, 47_unsupported_stub.md R210 to R221: no TS change, no response byte, EV_UNSUPPORTED at low
severity with the whole frame. -/
def Obligations.UnsupportedOpcodesLogAndStaySilent : Prop :=
  ∀ (x : Payload) (s : State),
    let w : Byte → FrameWord := fun op => bytesWord x.p0 x.p1 x.p2 x.p3 op
    let out : Byte → Host.Outcome State Fault Refusal := fun op => .next (afterLog s .unsupported .low (w op) [])
    decodeFrame (x.withOp 0x09) = .uns09 x ∧ decodeFrame (x.withOp 0x0A) = .uns0A x ∧
    decodeFrame (x.withOp 0x0B) = .uns0B x ∧ decodeFrame (x.withOp 0x0C) = .uns0C x ∧
    decodeFrame (x.withOp 0x0F) = .uns0F x ∧ decodeFrame (x.withOp 0x8F) = .uns8F x ∧
    decodeFrame (x.withOp 0xA7) = .unsA7 x ∧ decodeFrame (x.withOp 0xBA) = .unsBA x ∧
    decodeFrame (x.withOp 0xBC) = .unsBC x ∧ decodeFrame (x.withOp 0xBE) = .unsBE x ∧
    decodeFrame (x.withOp 0xF9) = .unsF9 x ∧
    exec (.uns09 x) s = out 0x09 ∧ exec (.uns0A x) s = out 0x0A ∧ exec (.uns0B x) s = out 0x0B ∧
    exec (.uns0C x) s = out 0x0C ∧ exec (.uns0F x) s = out 0x0F ∧ exec (.uns8F x) s = out 0x8F ∧
    exec (.unsA7 x) s = out 0xA7 ∧ exec (.unsBA x) s = out 0xBA ∧ exec (.unsBC x) s = out 0xBC ∧
    exec (.unsBE x) s = out 0xBE ∧ exec (.unsF9 x) s = out 0xF9

/-- UNKNOWN, 47_unsupported_stub.md R224: every opcode that is not one of the 28 of 30_encoding.md R88 decodes to it; no TS
change, no response byte, EV_UNKNOWN with the whole frame. -/
def Obligations.UnknownOpcodesLogAndStaySilent : Prop :=
  ∀ (op : Byte) (x : Payload) (s : State),
    (([0x01, 0x03, 0xF7, 0xE7, 0xBB, 0x81, 0x00, 0x02, 0x82, 0x05, 0x85, 0x07, 0x08, 0x88, 0x10, 0x09, 0x0A, 0x0B, 0x0C, 0x0F,
       0x8F, 0xA7, 0xBA, 0xBC, 0xBE, 0xF9, 0xBD, 0xF5] : List Byte).contains op = false →
      decodeFrame (x.withOp op) = .unknown op x) ∧
    exec (.unknown op x) s =
      .next (afterLog s .unknownOpcode .warning (bytesWord x.p0 x.p1 x.p2 x.p3 op) [])

/-! ### Decoding and encoding -/

/-- One frame of each family, written out from 30_encoding.md R88 and R92, decodes to the instruction it stands for, and an
opcode that is not listed (0x80, R89) to UNKNOWN. -/
def Obligations.DecodeWrittenFrames : Prop :=
  decodeFrame ⟨0x01, 0x40, 0x74, 0x00, 0x01⟩ = .setfreq ⟨0x01, 0x40, 0x74, 0x00⟩ ∧
  decodeFrame ⟨0x00, 0x00, 0x00, 0x00, 0xF7⟩ = .txstat ⟨0x00, 0x00, 0x00, 0x00⟩ ∧
  decodeFrame ⟨0x00, 0x00, 0x00, 0x00, 0x00⟩ = .locktog ⟨0x00, 0x00, 0x00, 0x00⟩ ∧
  decodeFrame ⟨0x02, 0x00, 0x00, 0x00, 0x07⟩ = .setmode 0x02 0x00 0x00 0x00 ∧
  decodeFrame ⟨0x00, 0x00, 0x00, 0x00, 0x0F⟩ = .uns0F ⟨0x00, 0x00, 0x00, 0x00⟩ ∧
  decodeFrame ⟨0x00, 0x00, 0x12, 0x34, 0xF5⟩ = .setclarf ⟨0x00, 0x00, 0x12, 0x34⟩ ∧
  decodeFrame ⟨0x00, 0x00, 0x00, 0x00, 0x80⟩ = .unknown 0x80 ⟨0x00, 0x00, 0x00, 0x00⟩

/-- Decoding the encoding of a well-formed instruction gives it back, with every operand and ignored byte at every value, as
a frame and at the head of any byte list (30_encoding.md R80, R81, R86). -/
def Obligations.DecodeOfEncodeIsTheInstruction : Prop :=
  ∀ (i : Instr) (rest : List Byte), wellFormed i = true →
    decodeFrame (encode i) = i ∧ decode ((encode i).bytes ++ rest) = .ok (i, rest)

/-- Decoding is total and drops no bit: every frame decodes to a well-formed instruction that encodes to that frame, and the
frame word holds the five bytes at the places of 30_encoding.md R81 (R82, R91). -/
def Obligations.EncodeOfDecodeIsTheFrame : Prop :=
  (∀ f : Frame, wellFormed (decodeFrame f) = true ∧ encode (decodeFrame f) = f) ∧
  (∀ f : Frame,
    (frameWord f).extractLsb' 32 8 = f.d0 ∧ (frameWord f).extractLsb' 24 8 = f.d1 ∧
    (frameWord f).extractLsb' 16 8 = f.d2 ∧ (frameWord f).extractLsb' 8 8 = f.d3 ∧
    (frameWord f).extractLsb' 0 8 = f.d4) ∧
  (∀ w : FrameWord, frameWord (frameOfWord w) = w)

/-! ### The codec -/

/-- The round-trip laws of 40_codec.md R108, (a) and (b). -/
def Obligations.CodecRoundTrips : Prop :=
  (∀ f : Hz, f.toNat < 10 ^ 9 → f.toNat % 10 = 0 →
    (pack f).ovf = false ∧ unpack (pack f).b0 (pack f).b1 (pack f).b2 (pack f).b3 = ⟨f, false⟩) ∧
  (∀ b0 b1 b2 b3 : Byte, (unpack b0 b1 b2 b3).bad = false →
    pack (unpack b0 b1 b2 b3).f = ⟨b0, b1, b2, b3, false⟩)

/-- PACK, 40_codec.md R101, R103, R104: below 10^9 Hz the four bytes are the BCD digits of `f / 10`; from there on they are
99 99 99 99 with `ovf = 1`; all nibbles are digits; the digit for units of Hz is dropped. -/
def Obligations.PackDigits : Prop :=
  ∀ f : Hz,
    (f.toNat < 10 ^ 9 →
      (pack f).ovf = false ∧
      (10 * ((pack f).b0.toNat / 16) + (pack f).b0.toNat % 16) * 10 ^ 6 +
        (10 * ((pack f).b1.toNat / 16) + (pack f).b1.toNat % 16) * 10 ^ 4 +
        (10 * ((pack f).b2.toNat / 16) + (pack f).b2.toNat % 16) * 10 ^ 2 +
        (10 * ((pack f).b3.toNat / 16) + (pack f).b3.toNat % 16) = f.toNat / 10) ∧
    (10 ^ 9 ≤ f.toNat → pack f = ⟨0x99, 0x99, 0x99, 0x99, true⟩) ∧
    (∀ b ∈ [(pack f).b0, (pack f).b1, (pack f).b2, (pack f).b3], b.toNat / 16 ≤ 9 ∧ b.toNat % 16 ≤ 9) ∧
    pack (BitVec.ofNat 32 (10 * (f.toNat / 10))) = pack f

/-- UNPACK, 40_codec.md R105, R106: the value from the raw nibbles, and `bad` iff some nibble is over 9. -/
def Obligations.UnpackValueAndBad : Prop :=
  ∀ b0 b1 b2 b3 : Byte,
    let g : Byte → Nat := fun b => 10 * (b.toNat / 16) + b.toNat % 16
    (unpack b0 b1 b2 b3).f.toNat = 10 * (g b0 * 10 ^ 6 + g b1 * 10 ^ 4 + g b2 * 10 ^ 2 + g b3) ∧
    ((unpack b0 b1 b2 b3).bad = true ↔ ∃ b ∈ [b0, b1, b2, b3], 9 < b.toNat / 16 ∨ 9 < b.toNat % 16)

/-- The range of UNPACK, 40_codec.md R109. -/
def Obligations.UnpackRange : Prop :=
  ∀ b0 b1 b2 b3 : Byte,
    (unpack b0 b1 b2 b3).f.toNat % 10 = 0 ∧
    ((unpack b0 b1 b2 b3).bad = false → (unpack b0 b1 b2 b3).f.toNat ≤ 999999990) ∧
    ((unpack b0 b1 b2 b3).bad = true → (unpack b0 b1 b2 b3).f.toNat ≤ 1666666650)

/-- The stand-alone codec ports, 40_codec.md R110: the 32-bit BCD word has `b0` in bits 31:24 and `b3` in bits 7:0. -/
def Obligations.CodecPortLayout : Prop :=
  (∀ f : Hz,
    (packPort f).1.extractLsb' 24 8 = (pack f).b0 ∧ (packPort f).1.extractLsb' 16 8 = (pack f).b1 ∧
    (packPort f).1.extractLsb' 8 8 = (pack f).b2 ∧ (packPort f).1.extractLsb' 0 8 = (pack f).b3 ∧
    (packPort f).2 = (pack f).ovf) ∧
  (∀ b0 b1 b2 b3 : Byte,
    unpackPort (b0 ++ b1 ++ b2 ++ b3) = ((unpack b0 b1 b2 b3).f, (unpack b0 b1 b2 b3).bad))

/-! ### The steps -/

/-- A step runs the decoded instruction: in a state in which Dispatch is enabled (42_dispatch.md R140), whose frame decodes
to `i`, a step is `exec i`, when Dispatch is what is scheduled (taken off the schedule) and when nothing is (the model's
choice, log entry 6). -/
def Obligations.StepRunsTheDecodedFrame : Prop :=
  ∀ (s : State) (i : Instr), decodeFrame s.sr = i →
    s.halted = false → s.valid = true → s.phase = .idle → hasRoom s (rlen s.sr.d4) = true →
    (s.sched = [] → step s = exec i s) ∧
    (∀ rest, s.sched = .dispatch :: rest → step s = exec i { s with sched := rest })

/-- The same in a clock cycle of the port interface that performs the Dispatch and in which no input port is raised
(60_exceptions.md R241): the cycle is `exec` of the decoded frame, with the log queue and the cycle count moved on (the
model's own fields, log entries 13 and 14). -/
def Obligations.ClockCycleRunsTheDecodedFrame : Prop :=
  ∀ (s : State) (p : PortIn) (rest : List Move), s.sched = .cycle true p :: rest → QuietIn p →
    s.halted = false → s.valid = true → s.phase = .idle → hasRoom s (rlen s.sr.d4) = true →
    ∃ t, exec (decodeFrame s.sr) { s with sched := rest } = .next t ∧
      step s = .next { t with logQueue := (s.logQueue ++ newLogs s t).tail, cycles := s.cycles + 1 }

/-- `withFetchWord` places one frame where the next step runs it: from every state with a legal TXQ_DEPTH, the next step is
`exec` of the instruction the decoder reads, in the placed state without that scheduled Dispatch. DESIGN CHOICE, log entry 7. -/
def Obligations.WithFetchWordRunsNext : Prop :=
  ∀ (s : State) (w : Nat) (i : Instr), ParamsLegal s.params → decodeTableWord 40 w = some i →
    step (s.withFetchWord 40 w) = exec i { s.withFetchWord 40 w with sched := s.sched }

/-- A Dispatch that is not enabled waits, and the frame stays (42_dispatch.md R140). -/
def Obligations.DispatchWaitsUntilEnabled : Prop :=
  ∀ (s : State) (rest : List Move), s.sched = .dispatch :: rest →
    (s.halted = true ∨ s.valid = false ∨ s.phase = .waitBe ∨
      ∃ d, s.params.txqDepth = some d ∧ d < s.txq.length + rlen s.sr.d4) →
    step s = .next { s with sched := rest }

/-- RxByte, 41_frame_assembler.md R120, R121: an offered byte is shifted in and counted, the fifth completes the frame; while
`valid = 1` or `halted = 1` it stays with the transport and nothing changes. -/
def Obligations.RxByteShiftsAndCounts : Prop :=
  ∀ (s : State) (b : Byte) (line : List Byte) (rest : List Move), s.sched = .rx :: rest → s.rxLine = b :: line →
    step s = .next
      (if s.halted = true ∨ s.valid = true then { s with sched := rest }
       else if s.count = 4 then
        { s with sr := ⟨s.sr.d1, s.sr.d2, s.sr.d3, s.sr.d4, b⟩, count := 0, valid := true, rxLine := line, sched := rest }
       else
        { s with sr := ⟨s.sr.d1, s.sr.d2, s.sr.d3, s.sr.d4, b⟩, count := s.count + 1, rxLine := line, sched := rest })

/-- The frame is exactly the last five bytes accepted, in order, whatever `sr` held before (41_frame_assembler.md R123), and
so a lost byte shifts every later boundary (R127): five offered bytes, of one sent frame or of two, are dispatched as one. -/
def Obligations.FiveAcceptedBytesAreTheFrame : Prop :=
  ∀ (s : State) (b0 b1 b2 b3 b4 : Byte) (line : List Byte) (rest : List Move),
    s.halted = false → s.valid = false → s.count = 0 →
    s.rxLine = [b0, b1, b2, b3, b4] ++ line → s.sched = [.rx, .rx, .rx, .rx, .rx] ++ rest →
    runSteps 5 s = .next
      { s with sr := ⟨b0, b1, b2, b3, b4⟩, count := 0, valid := true, rxLine := line, sched := rest }

/-- BeAck, 42_dispatch.md R144, and 10_state.md R45 for a `be_ack` without `be_req`. -/
def Obligations.BeAckQueuesHeldResponse : Prop :=
  ∀ (s : State) (rest : List Move), s.sched = .beAck :: rest →
    step s = .next
      (if s.halted = false ∧ s.phase = .waitBe then
        { s with txq := s.txq ++ s.pend, pend := [], phase := .idle, valid := false, sched := rest }
       else { s with sched := rest })

/-- TxByte, 42_dispatch.md R152: the head of the queue leaves; with nothing queued, or halted, nothing happens. -/
def Obligations.TxByteSendsTheHead : Prop :=
  ∀ (s : State) (rest : List Move), s.sched = .tx :: rest →
    step s = .next
      (match s.halted, s.txq with
        | false, b :: q => { s with txq := q, trace := s.trace ++ [.tx b], sched := rest }
        | _, _ => { s with sched := rest })

/-- BeFail, 60_exceptions.md R236: one log event with info 0, and nothing else, in every phase; ignored while halted. -/
def Obligations.BeFailOnlyLogs : Prop :=
  ∀ (s : State) (rest : List Move), s.sched = .beFail :: rest →
    step s = .next
      (if s.halted = true then { s with sched := rest }
       else { s with trace := s.trace ++ [.log { cause := .backendFail, sev := .alert, word := 0 }], sched := rest })

/-- XportErr and Terminate, 60_exceptions.md R237, R242, R243: XportErr logs first; both emit Shutdown once and set `halted`,
and nothing else changes; neither does anything while halted. That `valid` is among what a halt keeps, as R242 says and
41_frame_assembler.md R122 does not, is log entry 24. -/
def Obligations.HaltEntryStopsTheBlock : Prop :=
  ∀ (s : State) (rest : List Move),
    (s.sched = .xportErr :: rest →
      step s = .next
        (if s.halted = true then { s with sched := rest }
         else { s with
           trace := s.trace ++ [.log { cause := .transportFail, sev := .fatal, word := 0 }, .shutdown]
           halted := true, sched := rest })) ∧
    (s.sched = .terminate :: rest →
      step s = .next
        (if s.halted = true then { s with sched := rest }
         else { s with trace := s.trace ++ [.shutdown], halted := true, sched := rest }))

/-- Reset(CFG), 70_reset_and_hazards.md R260 to R263: from every state, halted included, a legal configuration gives every state
element its reset value and emits nothing; an illegal one is refused. That the trace so far stays (log entry 8), and that log
events still waiting for the log port do (log entry 13), is the model's choice. -/
def Obligations.ResetLoadsTheConfiguration : Prop :=
  ∀ (s : State) (cfg : Cfg) (rest : List Move), s.sched = .reset cfg :: rest →
    ((cfg.freq.toNat % 10 = 0 ∧ cfg.freq.toNat ≤ 999999990) ∧
      ((cfg.freqB.getD cfg.freq).toNat % 10 = 0 ∧ (cfg.freqB.getD cfg.freq).toNat ≤ 999999990) ∧
      ([0x00, 0x01, 0x02, 0x03, 0x04, 0x08, 0x0A, 0x0C] : List Byte).contains cfg.mode = true →
      step s = .next
        { s with
          ts := { vfoA := cfg.freq, vfoB := cfg.freqB.getD cfg.freq, activeVFO := .A, mode := cfg.mode, ptt := false,
                  split := cfg.split, clar := cfg.clar, lock := cfg.lock }
          sr := ⟨0x00, 0x00, 0x00, 0x00, 0x00⟩, count := 0, valid := false, phase := .idle, pend := [], txq := []
          halted := false, sched := rest }) ∧
    (¬((cfg.freq.toNat % 10 = 0 ∧ cfg.freq.toNat ≤ 999999990) ∧
      ((cfg.freqB.getD cfg.freq).toNat % 10 = 0 ∧ (cfg.freqB.getD cfg.freq).toNat ≤ 999999990) ∧
      ([0x00, 0x01, 0x02, 0x03, 0x04, 0x08, 0x0A, 0x0C] : List Byte).contains cfg.mode = true) →
      step s = .refused (.illegalConfiguration cfg))

/-! ### Rules about the whole machine -/

/-- The invariants of 10_state.md R30 and R40 hold right after a reset from a legal configuration of a block with a legal
TXQ_DEPTH, and so at `State.reset`, whose configuration is the model's choice (log entries 1, 2). -/
def Obligations.InvariantAtReset : Prop :=
  (∀ (p : Params) (cfg : Cfg), ParamsLegal p → cfgLegal cfg = true → StateInv (State.initial p cfg)) ∧ StateInv State.reset

/-- Every step keeps the invariants of 10_state.md R30, R34 and R40, from every state that has them, reached or not. -/
def Obligations.EveryStepKeepsTheInvariant : Prop :=
  ∀ s t : State, StateInv s → step s = .next t → StateInv t

/-- 10_state.md R30 and R40 for every reachable state: after a reset from a legal configuration, whatever the transport
delivers and whatever is scheduled, resets with a legal configuration included. -/
def Obligations.ReachableStatesMeetTheInvariants : Prop :=
  ∀ (p : Params) (cfg : Cfg) (line : List Byte) (sched : List Move) (n : Nat) (t : State),
    ParamsLegal p → cfgLegal cfg = true →
    runSteps n { State.initial p cfg with rxLine := line, sched := sched } = .next t →
    ((t.ts.vfoA.toNat % 10 = 0 ∧ t.ts.vfoA.toNat ≤ 999999990) ∧
      (t.ts.vfoB.toNat % 10 = 0 ∧ t.ts.vfoB.toNat ≤ 999999990) ∧
      ([0x00, 0x01, 0x02, 0x03, 0x04, 0x08, 0x0A, 0x0C] : List Byte).contains t.ts.mode = true) ∧
    (t.valid = true → t.count = 0) ∧
    (t.phase = .waitBe → t.valid = true ∧ t.pend ≠ []) ∧
    (t.phase = .idle → t.pend = []) ∧
    (∀ d, p.txqDepth = some d → t.txq.length ≤ d)

/-- No step stops: while every scheduled reset has a legal configuration, a step answers a next state with the same duty
kept; and a step is refused only for an illegal configuration (60_exceptions.md R230, 70_reset_and_hazards.md R262). -/
def Obligations.NoStepStopsButForAnIllegalReset : Prop :=
  (∀ s : State, SchedLegal s → ∃ t, step s = .next t ∧ SchedLegal t) ∧
  (∀ (s : State) (r : Refusal), step s = .refused r → ∃ cfg, r = .illegalConfiguration cfg ∧ cfgLegal cfg = false)

/-- TS is written only by a Dispatch and by reset (10_state.md R21): where the next step performs an enabled Dispatch, TS becomes
the TS' of its frame's outcome; every other step that is no reset leaves TS as it is. -/
def Obligations.OnlyDispatchOrResetWritesTs : Prop :=
  ∀ s t : State, step s = .next t →
    (PerformsDispatch s → t.ts = (outcome (decodeFrame s.sr) s.params.ackOff s.ts).ts) ∧
    (¬PerformsDispatch s → (∀ m rest, s.sched = m :: rest → isResetMove m = false) → t.ts = s.ts)

/-- While a notification waits for the backend, no step but reset changes TS or the frame, the one that ends the wait
included (20_memory.md R74, R73). -/
def Obligations.WaitForBackendFreezesTs : Prop :=
  ∀ s t : State, s.phase = .waitBe → s.valid = true →
    (∀ m rest, s.sched = m :: rest → isResetMove m = false) → step s = .next t →
    t.ts = s.ts ∧ t.sr = s.sr ∧ t.count = s.count ∧
    (t.phase = .waitBe → t.valid = true ∧ t.pend = s.pend)

/-- A halted block: every step but reset leaves all the state the spec gives the block and the trace as they are
(60_exceptions.md R242, R243; 10_state.md R39). -/
def Obligations.HaltedBlockChangesOnlyByReset : Prop :=
  ∀ s : State, s.halted = true → (∀ m rest, s.sched = m :: rest → isResetMove m = false) →
    ∃ t, step s = .next t ∧ SameBlock s t ∧ t.rxLine = s.rxLine

/-- The trace (42_dispatch.md R154) only grows, whatever the step: no event is ever taken back (R147), and a reset adds none
(70_reset_and_hazards.md R263). That the trace stands in State and is kept across a reset is the model's choice, log entry 8. -/
def Obligations.TraceIsNeverRetracted : Prop :=
  ∀ s t : State, step s = .next t →
    (∃ es, t.trace = s.trace ++ es) ∧
    (∀ m rest, s.sched = m :: rest → isResetMove m = true → t.trace = s.trace)

/-- The response length is RLEN of the opcode, fixed before any state is read (42_dispatch.md R141). -/
def Obligations.ResponseLengthByOpcode : Prop :=
  ∀ (i : Instr) (s t : State), wellFormed i = true → s.pend = [] → exec i s = .next t →
    rlen (opcodeOf i) = rlenTable (opcodeOf i) ∧
    (t.txq ++ t.pend).length = s.txq.length + rlenTable (opcodeOf i)

/-- A dispatch emits at most one event of its own, a Log or a Notify and never both, in exactly the cases of
42_dispatch.md R149 and R143. -/
def Obligations.DispatchEmitsAtMostOneEvent : Prop :=
  ∀ (i : Instr) (s t : State), exec i s = .next t →
    let notifies : Prop :=
      (∃ p, i = .setfreq p ∧ (unpack p.p0 p.p1 p.p2 p.p3).bad = false) ∨ (∃ x, i = .vfotog x) ∨
      (∃ m x1 x2 x3, i = .setmode m x1 x2 x3 ∧ isMode m = true ∧ m ≠ s.ts.mode)
    let logs : Prop :=
      (∃ p, i = .setfreq p ∧ (unpack p.p0 p.p1 p.p2 p.p3).bad = true) ∨
      (∃ m x1 x2 x3, i = .setmode m x1 x2 x3 ∧ isMode m = false) ∨
      opClass (opcodeOf i) = .unsupported ∨ (∃ op x, i = .unknown op x)
    (notifies ∧ ¬logs ∧ t.trace = s.trace ++ [.notify]) ∨
    (logs ∧ ¬notifies ∧ ∃ r, t.trace = s.trace ++ [.log r]) ∨
    (¬notifies ∧ ¬logs ∧ t.trace = s.trace)

/-- A log record of a dispatched frame carries the whole frame word, ignored bytes included, and the severity of its cause
(60_exceptions.md R231, R238). -/
def Obligations.LogRecordCarriesTheFrame : Prop :=
  ∀ (f : Frame) (s t : State) (r : LogRecord), exec (decodeFrame f) s = .next t →
    t.trace = s.trace ++ [.log r] →
    r.word = bytesWord f.d0 f.d1 f.d2 f.d3 f.d4 ∧
    ((r.cause = .malformedBcd ∧ r.sev = .warning) ∨ (r.cause = .badMode ∧ r.sev = .warning) ∨
     (r.cause = .unsupported ∧ r.sev = .low) ∨ (r.cause = .unknownOpcode ∧ r.sev = .warning))

/-- The write half of the access matrix, 10_state.md R32, and the frame of every instruction: which opcode may change which
TS field, and that the assembler's bytes, the parameters, `halted` and the host's side never change. -/
def Obligations.OnlyListedOpcodesWriteEachField : Prop :=
  ∀ (i : Instr) (s t : State), exec i s = .next t →
    (t.ts.vfoA ≠ s.ts.vfoA → (∃ p, i = .setfreq p) ∧ s.ts.activeVFO = .A) ∧
    (t.ts.vfoB ≠ s.ts.vfoB → (∃ p, i = .setfreq p) ∧ s.ts.activeVFO = .B) ∧
    (t.ts.activeVFO ≠ s.ts.activeVFO → ∃ x, i = .vfotog x) ∧
    (t.ts.mode ≠ s.ts.mode → ∃ m x1 x2 x3, i = .setmode m x1 x2 x3) ∧
    (t.ts.ptt ≠ s.ts.ptt → ∃ x, i = .ptton x ∨ i = .pttoff x) ∧
    (t.ts.split ≠ s.ts.split → ∃ x, i = .spliton x ∨ i = .splitoff x) ∧
    (t.ts.clar ≠ s.ts.clar → ∃ x, i = .claron x ∨ i = .claroff x) ∧
    (t.ts.lock ≠ s.ts.lock → ∃ x, i = .locktog x) ∧
    t.params = s.params ∧ t.sr = s.sr ∧ t.count = s.count ∧ t.halted = s.halted ∧ t.rxLine = s.rxLine ∧
    t.sched = s.sched ∧ t.logQueue = s.logQueue ∧ t.cycles = s.cycles

/-- The outcome of a frame depends on the frame, TS and ACK_OFF_POLARITY alone (42_dispatch.md R142, R148): from two states
that agree on these, TS, the added events and the response are the same. -/
def Obligations.OutcomeDependsOnFrameAndTsOnly : Prop :=
  ∀ (i : Instr) (s1 s2 t1 t2 : State), s1.ts = s2.ts → s1.params.ackOff = s2.params.ackOff →
    exec i s1 = .next t1 → exec i s2 = .next t2 →
    t1.ts = t2.ts ∧
    ∃ (es : List Event) (resp : List Byte),
      t1.trace = s1.trace ++ es ∧ t2.trace = s2.trace ++ es ∧
      ((t1.phase = .waitBe ∧ t1.pend = resp ∧ t1.txq = s1.txq ∧ t2.phase = .waitBe ∧ t2.pend = resp ∧ t2.txq = s2.txq) ∨
       (t1.txq = s1.txq ++ resp ∧ t1.valid = false ∧ t1.pend = s1.pend ∧
        t2.txq = s2.txq ++ resp ∧ t2.valid = false ∧ t2.pend = s2.pend))

/-- Ignored payload bytes change nothing but the logged frame word (30_encoding.md R82, R83, R86): frames with the same opcode
have the same outcome when the form is NONE, and when it is MODE8 and they agree on P0. -/
def Obligations.IgnoredPayloadChangesNothing : Prop :=
  ∀ (f g : Frame) (pol : AckOffPolarity) (ts : TS), f.d4 = g.d4 →
    (f.d4 ≠ 0x01 ∧ f.d4 ≠ 0x07) ∨ (f.d4 = 0x07 ∧ f.d0 = g.d0) →
    (outcome (decodeFrame f) pol ts).ts = (outcome (decodeFrame g) pol ts).ts ∧
    (outcome (decodeFrame f) pol ts).notify = (outcome (decodeFrame g) pol ts).notify ∧
    (outcome (decodeFrame f) pol ts).resp = (outcome (decodeFrame g) pol ts).resp ∧
    ((outcome (decodeFrame f) pol ts).ev.map Prod.fst = (outcome (decodeFrame g) pol ts).ev.map Prod.fst)

/-- Lock gates nothing (10_state.md R29, 60_exceptions.md R245): but for LOCKTOG, an instruction does the same with `lock` at
either value, and leaves `lock` as it is. -/
def Obligations.LockGatesNothing : Prop :=
  ∀ (i : Instr) (s t : State) (b : Bool), (∀ x, i ≠ .locktog x) → exec i s = .next t →
    t.ts.lock = s.ts.lock ∧
    exec i { s with ts := { s.ts with lock := b } } = .next { t with ts := { t.ts with lock := b } }

/-- Repeated frames (70_reset_and_hazards.md R272): the flipping opcodes undo themselves, the setting ones reach the same TS. -/
def Obligations.RepeatedFramesUndoOrStay : Prop :=
  ∀ (pol : AckOffPolarity) (ts : TS),
    (∀ x, (outcome (.locktog x) pol (outcome (.locktog x) pol ts).ts).ts = ts) ∧
    (∀ x, (outcome (.spliton x) pol (outcome (.spliton x) pol ts).ts).ts = ts) ∧
    (∀ x, (outcome (.vfotog x) pol (outcome (.vfotog x) pol ts).ts).ts = ts) ∧
    (∀ i : Instr,
      (∃ p, i = .setfreq p) ∨ (∃ m x1 x2 x3, i = .setmode m x1 x2 x3) ∨ (∃ x, i = .claron x) ∨ (∃ x, i = .claroff x) ∨
        (∃ x, i = .splitoff x) ∨ (∃ x, i = .ptton x) ∨ (∃ x, i = .pttoff x) →
      (outcome i pol (outcome i pol ts).ts).ts = (outcome i pol ts).ts)

/-- The response stream is first-in first-out and loses nothing (20_memory.md R70, 42_dispatch.md R150, R147), at every step
but reset: a step that performs an enabled Dispatch adds the whole response of its frame at the end (R143), and every other
step leaves the stream as it is. -/
def Obligations.ResponsesLeaveInOrder : Prop :=
  ∀ s t : State, StateInv s → (∀ m rest, s.sched = m :: rest → isResetMove m = false) → step s = .next t →
    (PerformsDispatch s →
      responseStream t = responseStream s ++ (outcome (decodeFrame s.sr) s.params.ackOff s.ts).resp) ∧
    (¬PerformsDispatch s → responseStream t = responseStream s)

/-- One frame, served by an eager host from a quiescent running block, from its first byte to its last response byte:
exactly its outcome, in the order Log, Notify, response (20_memory.md R69, 42_dispatch.md R155). -/
def Obligations.EagerHostServesOneFrame : Prop :=
  ∀ (s : State) (f : Frame) (line : List Byte) (rest : List Move),
    StateInv s → Quiescent s → s.halted = false → s.count = 0 → s.rxLine = f.bytes ++ line → s.sched = eagerFrame ++ rest →
    runSteps 12 s = .next
      { s with
        sr := f
        ts := (outcome (decodeFrame f) s.params.ackOff s.ts).ts
        trace := s.trace ++ outcomeEvents (outcome (decodeFrame f) s.params.ackOff s.ts) ++
          (outcome (decodeFrame f) s.params.ackOff s.ts).resp.map .tx
        rxLine := line
        sched := rest }

/-- Any number of frames: every five bytes are one frame and one dispatch, in arrival order, and their outputs follow each
other (41_frame_assembler.md R125, R126; 20_memory.md R68; 42_dispatch.md R155). -/
def Obligations.EagerHostServesEveryFrame : Prop :=
  ∀ (fs : List Frame) (s : State) (line : List Byte) (rest : List Move),
    StateInv s → Quiescent s → s.halted = false → s.count = 0 →
    s.rxLine = fs.flatMap Frame.bytes ++ line → s.sched = fs.flatMap (fun _ => eagerFrame) ++ rest →
    runSteps (12 * fs.length) s = .next
      { s with
        sr := fs.getLastD s.sr
        ts := (framesOutput s.params.ackOff s.ts fs).1
        trace := s.trace ++ (framesOutput s.params.ackOff s.ts fs).2
        rxLine := line
        sched := rest }

/-- A running block never blocks forever (42_dispatch.md R155, R156): from every state with the invariant, when the transport takes what
is queued and held, and the backend acknowledges, it dispatches and reaches the quiescent state, without taking a request
byte. -/
def Obligations.ServedBlockReachesQuiescence : Prop :=
  ∀ s : State, StateInv s → s.halted = false → s.sched = drainMoves (s.txq.length + s.pend.length) →
    ∃ t, runSteps (s.txq.length + s.pend.length + 8) s = .next t ∧ Quiescent t ∧ t.sched = [] ∧ t.rxLine = s.rxLine ∧
      t.count = s.count ∧ t.sr = s.sr

/-! ### The port interface -/

/-- A clock cycle is a sequence of transaction steps (10_state.md R51), and the signals of the cycle say which (R42 to R47,
`cycleMoves`): with `rst = 0` it leaves the block, its trace included, as these steps of R50 do, one after the other, the
transport offering `rx_data`; the byte is taken exactly when `rx_valid` and `rx_ready` are both 1. The order of the steps inside
the transfers, and the ports in a cycle that halts, are log entry 11. -/
def Obligations.ClockCycleIsSomeSteps : Prop :=
  ∀ (d : Bool) (p : PortIn) (s : State), p.rst = false →
    ∃ t u : State,
      clockCycle d p s = .next t ∧
      runSteps (cycleMoves d p s).length { s with sched := cycleMoves d p s, rxLine := [p.rxData] } = .next u ∧
      SameBlock t u ∧ u.rxLine = (if p.rxValid && (portOut d p s).rxReady then [] else [p.rxData])

/-- The priority of simultaneous inputs (60_exceptions.md R241): `rst` overrides everything; `xport_err` comes before
`terminate` and before every transfer and dispatch of the cycle; `terminate` comes before those too. In a reset only the last
cycle with `rst = 1` loads the configuration (10_state.md R53, 70_reset_and_hazards.md R260); that the schedule says which is
the last is log entry 12. The clauses also show what the model chose or deduced: `be_fail` is ignored in the cycle that halts
(log entry 11), log events wait in a queue that a reset keeps (13), cycles are counted (14), the trace is kept across a reset
(8), and a halt keeps `valid` (24). -/
def Obligations.SimultaneousInputsPriority : Prop :=
  ∀ (d : Bool) (p : PortIn) (s : State),
    (p.rst = true → (∃ d' q rest, s.sched = .cycle d' q :: rest ∧ q.rst = true) →
      clockCycle d p s = .next { s with cycles := s.cycles + 1 }) ∧
    (p.rst = true → (∀ d' q rest, s.sched = .cycle d' q :: rest → q.rst = false) → cfgLegal p.cfg = true →
      clockCycle d p s = .next { resetTo p.cfg s with cycles := s.cycles + 1 }) ∧
    (p.rst = false → p.xportErr = true → s.halted = false →
      clockCycle d p s = .next
        { s with
          trace := s.trace ++ [.log { cause := .transportFail, sev := .fatal, word := 0 }, .shutdown]
          halted := true
          logQueue := (s.logQueue ++ [({ cause := .transportFail, sev := .fatal, word := 0 } : LogRecord)]).tail
          cycles := s.cycles + 1 }) ∧
    (p.rst = false → p.xportErr = false → p.terminate = true → s.halted = false →
      clockCycle d p s = .next
        { s with trace := s.trace ++ [.shutdown], halted := true, logQueue := s.logQueue.tail, cycles := s.cycles + 1 })

/-- The output ports (10_state.md R43, R44, R45, R47, R52) in every cycle: the two streams, the backend request, the shutdown
pulse, the state port and `halted`. `be_shutdown` is 1 in the cycle that halts the block, in which a Shutdown is emitted, and in
no other; a Notify is emitted exactly where `be_req` rises from this cycle to the next, whatever the inputs of the next. That
`rx_ready` and `tx_valid` are 0, `halted` still 0 and the pulse already 1 in the cycle that halts is log entry 11. -/
def Obligations.OutputPortsShowTheState : Prop :=
  (∀ (d : Bool) (p : PortIn) (s : State),
    let halting : Bool := !p.rst && !s.halted && (p.xportErr || p.terminate)
    (portOut d p s).rxReady = (!p.rst && !s.halted && !s.valid && !halting) ∧
    (portOut d p s).txValid = (!p.rst && !s.halted && decide (0 < s.txq.length) && !halting) ∧
    ((portOut d p s).txValid = true → s.txq.head? = some (portOut d p s).txData) ∧
    (portOut d p s).beReq = (s.phase == .waitBe && !s.halted) ∧
    (portOut d p s).beShutdown = halting ∧
    (portOut d p s).halted = s.halted ∧
    (portOut d p s).tsVfoA = s.ts.vfoA ∧ (portOut d p s).tsVfoB = s.ts.vfoB ∧
    ((portOut d p s).tsActiveVfo = true ↔ s.ts.activeVFO = .B) ∧ (portOut d p s).tsMode = s.ts.mode ∧
    (portOut d p s).tsPtt = s.ts.ptt ∧ (portOut d p s).tsSplit = s.ts.split ∧ (portOut d p s).tsClar = s.ts.clar ∧
    (portOut d p s).tsLock = s.ts.lock) ∧
  (∀ (d d' : Bool) (p p' : PortIn) (s t : State), clockCycle d p s = .next t →
    ((portOut d p s).beShutdown = true ↔ Event.shutdown ∈ t.trace.drop s.trace.length) ∧
    ((portOut d p s).beShutdown = true → (portOut d' p' t).halted = true ∧ (portOut d' p' t).beShutdown = false) ∧
    (((portOut d p s).beReq = false ∧ (portOut d' p' t).beReq = true) ↔ Event.notify ∈ t.trace.drop s.trace.length))

/-- The log port shows every log event once, one a cycle, in order (10_state.md R46, 60_exceptions.md R241): a cycle with
`rst = 0` shows the first of what waited and what the cycle raises, the rest goes on waiting; nothing is shown while `rst = 1`.
The ports carry the record with the code of its cause and the number of its severity (60_exceptions.md R231: `causeRow`,
`severityRow`), and a cycle raises each record with the severity and the word its cause has there, the frame word or 0 (R238).
Where the events wait is the model's choice, log entry 13. -/
def Obligations.LogPortShowsEventsInOrder : Prop :=
  ∀ (d : Bool) (p : PortIn) (s t : State), clockCycle d p s = .next t →
    (p.rst = false →
      logShown d p s = (s.logQueue ++ (t.trace.drop s.trace.length).filterMap logOfEvent).head? ∧
      t.logQueue = (s.logQueue ++ (t.trace.drop s.trace.length).filterMap logOfEvent).tail) ∧
    (p.rst = true → logShown d p s = none ∧ t.logQueue = s.logQueue) ∧
    (∀ r, Event.log r ∈ t.trace.drop s.trace.length →
      severityRow r.sev = (causeRow r.cause).2 ∧
      r.word = (if r.cause = .backendFail ∨ r.cause = .transportFail then 0
        else bytesWord s.sr.d0 s.sr.d1 s.sr.d2 s.sr.d3 s.sr.d4)) ∧
    (portOut d p s).logValid = (logShown d p s).isSome ∧
    ∀ r, logShown d p s = some r →
      (portOut d p s).logCause = (causeRow r.cause).1 ∧ (portOut d p s).logSev = severityRow r.sev ∧
      (portOut d p s).logFrame = r.word

/-! ### The assembler notation -/

/-- SETFREQ lines (30_encoding.md R92, R94): an operand that is a multiple of 10 in 0..999,999,990 gives a frame that decodes to
the SETFREQ of that frequency; any other is refused. -/
def Obligations.AssembledSetfreqCarriesItsOperand : Prop :=
  ∀ hz : Int,
    (0 ≤ hz ∧ hz % 10 = 0 ∧ hz ≤ 999999990 →
      ∃ p : Payload, assembleLine (.setfreq hz) = .ok (encode (.setfreq p)).bytes ∧
        (unpack p.p0 p.p1 p.p2 p.p3).bad = false ∧ ((unpack p.p0 p.p1 p.p2 p.p3).f.toNat : Int) = hz) ∧
    (¬(0 ≤ hz ∧ hz % 10 = 0 ∧ hz ≤ 999999990) → assembleLine (.setfreq hz) = .error .badFrequency)

/-- The pseudo-instruction SETFREQ.B (30_encoding.md R93): its three frames write the VFO that is not active and nothing else,
with three notifications and three response bytes 00. -/
def Obligations.SetfreqBWritesTheInactiveVfo : Prop :=
  ∀ (hz : Int) (pol : AckOffPolarity) (ts : TS), 0 ≤ hz → hz % 10 = 0 → hz ≤ 999999990 →
    ∃ f1 f2 f3 : Frame,
      assembleLine (.setfreqB hz) = .ok (f1.bytes ++ f2.bytes ++ f3.bytes) ∧
      framesOutput pol ts [f1, f2, f3] =
        ((match ts.activeVFO with
          | .A => { ts with vfoB := BitVec.ofInt 32 hz }
          | .B => { ts with vfoA := BitVec.ofInt 32 hz }),
         [.notify, .tx 0x00, .notify, .tx 0x00, .notify, .tx 0x00])
end

