-- ==== Sys2Proof/Laws/Codec.lean ====
section
/-! SUPPORT. The parts of the codec as natural numbers: nibbles, groups, digits. -/

namespace Sys2Proof.Machine

theorem hiNibble_eq (b : Byte) : hiNibble b = b.toNat / 16 := by
  have h := b.isLt
  simp only [hiNibble, BitVec.extractLsb'_toNat, Nat.shiftRight_eq_div_pow]
  omega

theorem loNibble_eq (b : Byte) : loNibble b = b.toNat % 16 := by
  simp [loNibble, BitVec.extractLsb'_toNat]

theorem hiNibble_le (b : Byte) : hiNibble b ≤ 15 := by
  have h := b.isLt
  rw [hiNibble_eq]; omega

theorem loNibble_le (b : Byte) : loNibble b ≤ 15 := by
  rw [loNibble_eq]; omega

/-- A raw group is at most 165 (40_codec.md R105). -/
theorem bcdGroup_le (b : Byte) : bcdGroup b ≤ 165 := by
  have h1 := hiNibble_le b
  have h2 := loNibble_le b
  unfold bcdGroup; omega

/-- A byte is well formed iff both its nibbles are digits (40_codec.md R106). -/
theorem bcdByteBad_eq_false (b : Byte) : bcdByteBad b = false ↔ hiNibble b ≤ 9 ∧ loNibble b ≤ 9 := by
  simp [bcdByteBad]

theorem decDigit_le (v i : Nat) : decDigit v i ≤ 9 := by
  unfold decDigit; omega

/-- A packed byte of two digits holds them in its nibbles. -/
theorem bcdByte_toNat {t u : Nat} (ht : t ≤ 9) (hu : u ≤ 9) : (bcdByte t u).toNat = 16 * t + u := by
  interval_cases t <;> interval_cases u <;> rfl

/-- The value UNPACK outputs fits in 32 bits (40_codec.md R105). -/
theorem unpack_f_toNat (b0 b1 b2 b3 : Byte) :
    (unpack b0 b1 b2 b3).f.toNat =
      10 * (bcdGroup b0 * 10 ^ 6 + bcdGroup b1 * 10 ^ 4 + bcdGroup b2 * 10 ^ 2 + bcdGroup b3) := by
  have h0 := bcdGroup_le b0
  have h1 := bcdGroup_le b1
  have h2 := bcdGroup_le b2
  have h3 := bcdGroup_le b3
  simp only [unpack, BitVec.toNat_ofNat]
  omega

end Sys2Proof.Machine
end

