-- ==== Sys2Proof/Laws/Decode.lean ====
section
/-! SUPPORT. Looking an opcode up in the ROM: what is found is an entry, what is not listed is not found, and an entry's
instruction encodes to its opcode (30_encoding.md R82, R87, R88). -/

namespace Sys2Proof

/-- What the ROM answers for an opcode is an entry of it. -/
theorem rom_lookup_mem {op : Byte} {c : Payload → Instr} (h : rom.lookup op = some c) : (op, c) ∈ rom := by
  obtain ⟨l₁, l₂, e, -⟩ := List.lookup_eq_some_iff.1 h
  rw [e]; simp

/-- An opcode that is not listed is not in the ROM. -/
theorem rom_lookup_unlisted {op : Byte} (h : isListed op = false) : rom.lookup op = none := by
  rw [List.lookup_eq_none_iff]
  intro p hp
  by_contra hne
  have : op = p.1 := by simpa using hne
  subst this
  simp [isListed, listedOpcodes] at h
  exact h p.2 hp

/-- An opcode the ROM has no entry for is not listed. -/
theorem unlisted_of_rom_lookup {op : Byte} (h : rom.lookup op = none) : isListed op = false := by
  rw [List.lookup_eq_none_iff] at h
  simp only [isListed, listedOpcodes, List.contains_eq_mem, decide_eq_false_iff_not, List.mem_map, not_exists, not_and]
  intro x hx e
  have := h x hx
  simp [e] at this

/-- The instruction of a ROM entry encodes to the entry's opcode and the payload it was given, and is well formed. -/
theorem rom_encode : ∀ r ∈ rom, ∀ p : Payload, encode (r.2 p) = p.withOp r.1 ∧ wellFormed (r.2 p) = true := by
  intro r hr p
  simp only [rom, List.mem_cons, List.not_mem_nil, or_false] at hr
  casesm* _ ∨ _ <;> (subst r; exact ⟨rfl, rfl⟩)

end Sys2Proof
end

