-- ==== Sys2Proof/Laws/State.lean ====
section
/-! SUPPORT. One lemma per field per named update of State, all true by unfolding the update once. -/

namespace Sys2Proof.Machine

@[simp] theorem emit_params (e : Event) (s : State) : (emit e s).params = s.params := rfl
@[simp] theorem emit_ts (e : Event) (s : State) : (emit e s).ts = s.ts := rfl
@[simp] theorem emit_sr (e : Event) (s : State) : (emit e s).sr = s.sr := rfl
@[simp] theorem emit_count (e : Event) (s : State) : (emit e s).count = s.count := rfl
@[simp] theorem emit_valid (e : Event) (s : State) : (emit e s).valid = s.valid := rfl
@[simp] theorem emit_phase (e : Event) (s : State) : (emit e s).phase = s.phase := rfl
@[simp] theorem emit_pend (e : Event) (s : State) : (emit e s).pend = s.pend := rfl
@[simp] theorem emit_txq (e : Event) (s : State) : (emit e s).txq = s.txq := rfl
@[simp] theorem emit_halted (e : Event) (s : State) : (emit e s).halted = s.halted := rfl
@[simp] theorem emit_trace (e : Event) (s : State) : (emit e s).trace = s.trace ++ [e] := rfl
@[simp] theorem emit_rxLine (e : Event) (s : State) : (emit e s).rxLine = s.rxLine := rfl
@[simp] theorem emit_sched (e : Event) (s : State) : (emit e s).sched = s.sched := rfl
@[simp] theorem emit_logQueue (e : Event) (s : State) : (emit e s).logQueue = s.logQueue := rfl
@[simp] theorem emit_cycles (e : Event) (s : State) : (emit e s).cycles = s.cycles := rfl

@[simp] theorem setTs_params (ts : TS) (s : State) : (setTs ts s).params = s.params := rfl
@[simp] theorem setTs_ts (ts : TS) (s : State) : (setTs ts s).ts = ts := rfl
@[simp] theorem setTs_sr (ts : TS) (s : State) : (setTs ts s).sr = s.sr := rfl
@[simp] theorem setTs_count (ts : TS) (s : State) : (setTs ts s).count = s.count := rfl
@[simp] theorem setTs_valid (ts : TS) (s : State) : (setTs ts s).valid = s.valid := rfl
@[simp] theorem setTs_phase (ts : TS) (s : State) : (setTs ts s).phase = s.phase := rfl
@[simp] theorem setTs_pend (ts : TS) (s : State) : (setTs ts s).pend = s.pend := rfl
@[simp] theorem setTs_txq (ts : TS) (s : State) : (setTs ts s).txq = s.txq := rfl
@[simp] theorem setTs_halted (ts : TS) (s : State) : (setTs ts s).halted = s.halted := rfl
@[simp] theorem setTs_trace (ts : TS) (s : State) : (setTs ts s).trace = s.trace := rfl
@[simp] theorem setTs_rxLine (ts : TS) (s : State) : (setTs ts s).rxLine = s.rxLine := rfl
@[simp] theorem setTs_sched (ts : TS) (s : State) : (setTs ts s).sched = s.sched := rfl
@[simp] theorem setTs_logQueue (ts : TS) (s : State) : (setTs ts s).logQueue = s.logQueue := rfl
@[simp] theorem setTs_cycles (ts : TS) (s : State) : (setTs ts s).cycles = s.cycles := rfl

@[simp] theorem holdResponse_params (r : List Byte) (s : State) : (holdResponse r s).params = s.params := rfl
@[simp] theorem holdResponse_ts (r : List Byte) (s : State) : (holdResponse r s).ts = s.ts := rfl
@[simp] theorem holdResponse_sr (r : List Byte) (s : State) : (holdResponse r s).sr = s.sr := rfl
@[simp] theorem holdResponse_count (r : List Byte) (s : State) : (holdResponse r s).count = s.count := rfl
@[simp] theorem holdResponse_valid (r : List Byte) (s : State) : (holdResponse r s).valid = s.valid := rfl
@[simp] theorem holdResponse_phase (r : List Byte) (s : State) : (holdResponse r s).phase = .waitBe := rfl
@[simp] theorem holdResponse_pend (r : List Byte) (s : State) : (holdResponse r s).pend = r := rfl
@[simp] theorem holdResponse_txq (r : List Byte) (s : State) : (holdResponse r s).txq = s.txq := rfl
@[simp] theorem holdResponse_halted (r : List Byte) (s : State) : (holdResponse r s).halted = s.halted := rfl
@[simp] theorem holdResponse_trace (r : List Byte) (s : State) : (holdResponse r s).trace = s.trace := rfl
@[simp] theorem holdResponse_rxLine (r : List Byte) (s : State) : (holdResponse r s).rxLine = s.rxLine := rfl
@[simp] theorem holdResponse_sched (r : List Byte) (s : State) : (holdResponse r s).sched = s.sched := rfl
@[simp] theorem holdResponse_logQueue (r : List Byte) (s : State) : (holdResponse r s).logQueue = s.logQueue := rfl
@[simp] theorem holdResponse_cycles (r : List Byte) (s : State) : (holdResponse r s).cycles = s.cycles := rfl

@[simp] theorem queueResponse_params (r : List Byte) (s : State) : (queueResponse r s).params = s.params := rfl
@[simp] theorem queueResponse_ts (r : List Byte) (s : State) : (queueResponse r s).ts = s.ts := rfl
@[simp] theorem queueResponse_sr (r : List Byte) (s : State) : (queueResponse r s).sr = s.sr := rfl
@[simp] theorem queueResponse_count (r : List Byte) (s : State) : (queueResponse r s).count = s.count := rfl
@[simp] theorem queueResponse_valid (r : List Byte) (s : State) : (queueResponse r s).valid = false := rfl
@[simp] theorem queueResponse_phase (r : List Byte) (s : State) : (queueResponse r s).phase = s.phase := rfl
@[simp] theorem queueResponse_pend (r : List Byte) (s : State) : (queueResponse r s).pend = s.pend := rfl
@[simp] theorem queueResponse_txq (r : List Byte) (s : State) : (queueResponse r s).txq = s.txq ++ r := rfl
@[simp] theorem queueResponse_halted (r : List Byte) (s : State) : (queueResponse r s).halted = s.halted := rfl
@[simp] theorem queueResponse_trace (r : List Byte) (s : State) : (queueResponse r s).trace = s.trace := rfl
@[simp] theorem queueResponse_rxLine (r : List Byte) (s : State) : (queueResponse r s).rxLine = s.rxLine := rfl
@[simp] theorem queueResponse_sched (r : List Byte) (s : State) : (queueResponse r s).sched = s.sched := rfl
@[simp] theorem queueResponse_logQueue (r : List Byte) (s : State) : (queueResponse r s).logQueue = s.logQueue := rfl
@[simp] theorem queueResponse_cycles (r : List Byte) (s : State) : (queueResponse r s).cycles = s.cycles := rfl

@[simp] theorem logEvent_params (c : Cause) (w : FrameWord) (s : State) : (logEvent c w s).params = s.params := rfl
@[simp] theorem logEvent_ts (c : Cause) (w : FrameWord) (s : State) : (logEvent c w s).ts = s.ts := rfl
@[simp] theorem logEvent_sr (c : Cause) (w : FrameWord) (s : State) : (logEvent c w s).sr = s.sr := rfl
@[simp] theorem logEvent_count (c : Cause) (w : FrameWord) (s : State) : (logEvent c w s).count = s.count := rfl
@[simp] theorem logEvent_valid (c : Cause) (w : FrameWord) (s : State) : (logEvent c w s).valid = s.valid := rfl
@[simp] theorem logEvent_phase (c : Cause) (w : FrameWord) (s : State) : (logEvent c w s).phase = s.phase := rfl
@[simp] theorem logEvent_pend (c : Cause) (w : FrameWord) (s : State) : (logEvent c w s).pend = s.pend := rfl
@[simp] theorem logEvent_txq (c : Cause) (w : FrameWord) (s : State) : (logEvent c w s).txq = s.txq := rfl
@[simp] theorem logEvent_halted (c : Cause) (w : FrameWord) (s : State) : (logEvent c w s).halted = s.halted := rfl
@[simp] theorem logEvent_trace (c : Cause) (w : FrameWord) (s : State) : (logEvent c w s).trace = s.trace ++ [.log ⟨c, causeSeverity c, w⟩] := rfl
@[simp] theorem logEvent_rxLine (c : Cause) (w : FrameWord) (s : State) : (logEvent c w s).rxLine = s.rxLine := rfl
@[simp] theorem logEvent_sched (c : Cause) (w : FrameWord) (s : State) : (logEvent c w s).sched = s.sched := rfl
@[simp] theorem logEvent_logQueue (c : Cause) (w : FrameWord) (s : State) : (logEvent c w s).logQueue = s.logQueue := rfl
@[simp] theorem logEvent_cycles (c : Cause) (w : FrameWord) (s : State) : (logEvent c w s).cycles = s.cycles := rfl

@[simp] theorem haltEntry_params (s : State) : (haltEntry s).params = s.params := rfl
@[simp] theorem haltEntry_ts (s : State) : (haltEntry s).ts = s.ts := rfl
@[simp] theorem haltEntry_sr (s : State) : (haltEntry s).sr = s.sr := rfl
@[simp] theorem haltEntry_count (s : State) : (haltEntry s).count = s.count := rfl
@[simp] theorem haltEntry_valid (s : State) : (haltEntry s).valid = s.valid := rfl
@[simp] theorem haltEntry_phase (s : State) : (haltEntry s).phase = s.phase := rfl
@[simp] theorem haltEntry_pend (s : State) : (haltEntry s).pend = s.pend := rfl
@[simp] theorem haltEntry_txq (s : State) : (haltEntry s).txq = s.txq := rfl
@[simp] theorem haltEntry_halted (s : State) : (haltEntry s).halted = true := rfl
@[simp] theorem haltEntry_trace (s : State) : (haltEntry s).trace = s.trace ++ [.shutdown] := rfl
@[simp] theorem haltEntry_rxLine (s : State) : (haltEntry s).rxLine = s.rxLine := rfl
@[simp] theorem haltEntry_sched (s : State) : (haltEntry s).sched = s.sched := rfl
@[simp] theorem haltEntry_logQueue (s : State) : (haltEntry s).logQueue = s.logQueue := rfl
@[simp] theorem haltEntry_cycles (s : State) : (haltEntry s).cycles = s.cycles := rfl

@[simp] theorem takeMove_params (r : List Move) (s : State) : (takeMove r s).params = s.params := rfl
@[simp] theorem takeMove_ts (r : List Move) (s : State) : (takeMove r s).ts = s.ts := rfl
@[simp] theorem takeMove_sr (r : List Move) (s : State) : (takeMove r s).sr = s.sr := rfl
@[simp] theorem takeMove_count (r : List Move) (s : State) : (takeMove r s).count = s.count := rfl
@[simp] theorem takeMove_valid (r : List Move) (s : State) : (takeMove r s).valid = s.valid := rfl
@[simp] theorem takeMove_phase (r : List Move) (s : State) : (takeMove r s).phase = s.phase := rfl
@[simp] theorem takeMove_pend (r : List Move) (s : State) : (takeMove r s).pend = s.pend := rfl
@[simp] theorem takeMove_txq (r : List Move) (s : State) : (takeMove r s).txq = s.txq := rfl
@[simp] theorem takeMove_halted (r : List Move) (s : State) : (takeMove r s).halted = s.halted := rfl
@[simp] theorem takeMove_trace (r : List Move) (s : State) : (takeMove r s).trace = s.trace := rfl
@[simp] theorem takeMove_rxLine (r : List Move) (s : State) : (takeMove r s).rxLine = s.rxLine := rfl
@[simp] theorem takeMove_sched (r : List Move) (s : State) : (takeMove r s).sched = r := rfl
@[simp] theorem takeMove_logQueue (r : List Move) (s : State) : (takeMove r s).logQueue = s.logQueue := rfl
@[simp] theorem takeMove_cycles (r : List Move) (s : State) : (takeMove r s).cycles = s.cycles := rfl

@[simp] theorem resetTo_params (c : Cfg) (s : State) : (resetTo c s).params = s.params := rfl
@[simp] theorem resetTo_ts (c : Cfg) (s : State) : (resetTo c s).ts = resetTs c := rfl
@[simp] theorem resetTo_sr (c : Cfg) (s : State) : (resetTo c s).sr = ⟨0x00, 0x00, 0x00, 0x00, 0x00⟩ := rfl
@[simp] theorem resetTo_count (c : Cfg) (s : State) : (resetTo c s).count = 0 := rfl
@[simp] theorem resetTo_valid (c : Cfg) (s : State) : (resetTo c s).valid = false := rfl
@[simp] theorem resetTo_phase (c : Cfg) (s : State) : (resetTo c s).phase = .idle := rfl
@[simp] theorem resetTo_pend (c : Cfg) (s : State) : (resetTo c s).pend = [] := rfl
@[simp] theorem resetTo_txq (c : Cfg) (s : State) : (resetTo c s).txq = [] := rfl
@[simp] theorem resetTo_halted (c : Cfg) (s : State) : (resetTo c s).halted = false := rfl
@[simp] theorem resetTo_trace (c : Cfg) (s : State) : (resetTo c s).trace = s.trace := rfl
@[simp] theorem resetTo_rxLine (c : Cfg) (s : State) : (resetTo c s).rxLine = s.rxLine := rfl
@[simp] theorem resetTo_sched (c : Cfg) (s : State) : (resetTo c s).sched = s.sched := rfl
@[simp] theorem resetTo_logQueue (c : Cfg) (s : State) : (resetTo c s).logQueue = s.logQueue := rfl
@[simp] theorem resetTo_cycles (c : Cfg) (s : State) : (resetTo c s).cycles = s.cycles := rfl

@[simp] theorem placeFrame_params (f : Frame) (s : State) : (placeFrame f s).params = s.params := rfl
@[simp] theorem placeFrame_ts (f : Frame) (s : State) : (placeFrame f s).ts = s.ts := rfl
@[simp] theorem placeFrame_sr (f : Frame) (s : State) : (placeFrame f s).sr = f := rfl
@[simp] theorem placeFrame_count (f : Frame) (s : State) : (placeFrame f s).count = 0 := rfl
@[simp] theorem placeFrame_valid (f : Frame) (s : State) : (placeFrame f s).valid = true := rfl
@[simp] theorem placeFrame_phase (f : Frame) (s : State) : (placeFrame f s).phase = .idle := rfl
@[simp] theorem placeFrame_pend (f : Frame) (s : State) : (placeFrame f s).pend = [] := rfl
@[simp] theorem placeFrame_txq (f : Frame) (s : State) : (placeFrame f s).txq = if hasRoom s (rlen f.d4) then s.txq else [] := rfl
@[simp] theorem placeFrame_halted (f : Frame) (s : State) : (placeFrame f s).halted = false := rfl
@[simp] theorem placeFrame_trace (f : Frame) (s : State) : (placeFrame f s).trace = s.trace := rfl
@[simp] theorem placeFrame_rxLine (f : Frame) (s : State) : (placeFrame f s).rxLine = s.rxLine := rfl
@[simp] theorem placeFrame_sched (f : Frame) (s : State) : (placeFrame f s).sched = .dispatch :: s.sched := rfl
@[simp] theorem placeFrame_logQueue (f : Frame) (s : State) : (placeFrame f s).logQueue = s.logQueue := rfl
@[simp] theorem placeFrame_cycles (f : Frame) (s : State) : (placeFrame f s).cycles = s.cycles := rfl

end Sys2Proof.Machine
end

