-- ==== Sys2Proof/Laws/Exec.lean ====
section
/-! SUPPORT. What a meaning can do, said once: `exec` commits the outcome of its instruction (42_dispatch.md R142, R143), and
`commit` changes the fields listed here and no other. -/

namespace Sys2Proof.Machine

/-- The events an outcome adds to the trace: its log event, if any, then its notification, if any (20_memory.md R69). -/
def effectEvents (e : Effect) : List Event :=
  (match e.ev with
    | some (c, w) => [.log ⟨c, causeSeverity c, w⟩]
    | none => []) ++ (if e.notify then [.notify] else [])

/-- Every meaning commits the outcome of its instruction, so `exec` always answers a next state. -/
theorem exec_eq_commit (i : Instr) (s : State) :
    exec i s = .next (commit (outcome i s.params.ackOff s.ts) s) := by
  cases i <;> rfl

/-- The outcome of a malformed SETFREQ (43_frequency_vfo.md R170). -/
theorem outcome_setfreq_bad {p : Payload} (h : (unpack p.p0 p.p1 p.p2 p.p3).bad = true) (pol : AckOffPolarity) (ts : TS) :
    outcome (.setfreq p) pol ts = replyLog ts .malformedBcd (instrWord (.setfreq p)) [0x00] :=
  if_pos h

/-- The outcome of a well-formed SETFREQ (43_frequency_vfo.md R170). -/
theorem outcome_setfreq_good {p : Payload} (h : (unpack p.p0 p.p1 p.p2 p.p3).bad = false) (pol : AckOffPolarity)
    (ts : TS) :
    outcome (.setfreq p) pol ts = replyNotify (setActiveFreq (unpack p.p0 p.p1 p.p2 p.p3).f ts) [0x00] :=
  if_neg (Bool.eq_false_iff.1 h)

/-- The outcome of SETMODE with a byte that is no mode code (46_mode.md R200). -/
theorem outcome_setmode_bad {m : Byte} (h : isMode m = false) (x1 x2 x3 : Byte) (pol : AckOffPolarity) (ts : TS) :
    outcome (.setmode m x1 x2 x3) pol ts = replyLog ts .badMode (instrWord (.setmode m x1 x2 x3)) [0x00] :=
  if_neg (Bool.eq_false_iff.1 h)

/-- The outcome of SETMODE with the current mode (46_mode.md R200). -/
theorem outcome_setmode_same {m : Byte} {ts : TS} (h : isMode m = true) (hm : m = ts.mode) (x1 x2 x3 : Byte)
    (pol : AckOffPolarity) : outcome (.setmode m x1 x2 x3) pol ts = reply { ts with mode := m } [0x00] :=
  (if_pos h).trans (if_pos hm)

/-- The outcome of SETMODE with another mode (46_mode.md R200). -/
theorem outcome_setmode_new {m : Byte} {ts : TS} (h : isMode m = true) (hm : m ≠ ts.mode) (x1 x2 x3 : Byte)
    (pol : AckOffPolarity) : outcome (.setmode m x1 x2 x3) pol ts = replyNotify { ts with mode := m } [0x00] :=
  (if_pos h).trans (if_neg hm)

@[simp] theorem setActiveFreq_activeVFO (f : Hz) (ts : TS) : (setActiveFreq f ts).activeVFO = ts.activeVFO := by
  cases h : ts.activeVFO <;> simp [setActiveFreq, h]
@[simp] theorem setActiveFreq_mode (f : Hz) (ts : TS) : (setActiveFreq f ts).mode = ts.mode := by
  cases h : ts.activeVFO <;> simp [setActiveFreq, h]
@[simp] theorem setActiveFreq_ptt (f : Hz) (ts : TS) : (setActiveFreq f ts).ptt = ts.ptt := by
  cases h : ts.activeVFO <;> simp [setActiveFreq, h]
@[simp] theorem setActiveFreq_split (f : Hz) (ts : TS) : (setActiveFreq f ts).split = ts.split := by
  cases h : ts.activeVFO <;> simp [setActiveFreq, h]
@[simp] theorem setActiveFreq_clar (f : Hz) (ts : TS) : (setActiveFreq f ts).clar = ts.clar := by
  cases h : ts.activeVFO <;> simp [setActiveFreq, h]
@[simp] theorem setActiveFreq_lock (f : Hz) (ts : TS) : (setActiveFreq f ts).lock = ts.lock := by
  cases h : ts.activeVFO <;> simp [setActiveFreq, h]

/-- The active VFO reads back what was written to it. -/
@[simp] theorem activeFreq_setActiveFreq (f : Hz) (ts : TS) : activeFreq (setActiveFreq f ts) = f := by
  cases h : ts.activeVFO <;> simp [setActiveFreq, activeFreq, h]

/-- The state after an outcome that notifies. -/
theorem commit_of_notify {e : Effect} (h : e.notify = true) (s : State) :
    commit e s = holdResponse e.resp (emit .notify (logOutcome e.ev (setTs e.ts s))) := by
  simp [commit, h]

/-- The state after an outcome that does not notify. -/
theorem commit_of_quiet {e : Effect} (h : e.notify = false) (s : State) :
    commit e s = queueResponse e.resp (logOutcome e.ev (setTs e.ts s)) := by
  simp [commit, h]

theorem logOutcome_eq (ev : Option (Cause × FrameWord)) (s : State) :
    logOutcome ev s =
      { s with trace := s.trace ++ effectEvents { ts := s.ts, notify := false, ev := ev, resp := [] } } := by
  rcases ev with _ | ⟨c, w⟩ <;> simp [logOutcome, effectEvents, logEvent, emit]

/-- Everything `commit` can do, in one equation. -/
theorem commit_eq (e : Effect) (s : State) :
    commit e s =
      { s with
        ts := e.ts
        trace := s.trace ++ effectEvents e
        valid := if e.notify then s.valid else false
        phase := if e.notify then .waitBe else s.phase
        pend := if e.notify then e.resp else s.pend
        txq := if e.notify then s.txq else s.txq ++ e.resp } := by
  rcases e with ⟨ts, notify, ev, resp⟩
  cases notify <;> rcases ev with _ | ⟨c, w⟩ <;>
    simp [commit, logOutcome, effectEvents, logEvent, emit, setTs, holdResponse, queueResponse]

@[simp] theorem commit_ts (e : Effect) (s : State) : (commit e s).ts = e.ts := by rw [commit_eq]
@[simp] theorem commit_trace (e : Effect) (s : State) : (commit e s).trace = s.trace ++ effectEvents e := by
  rw [commit_eq]
@[simp] theorem commit_valid (e : Effect) (s : State) :
    (commit e s).valid = if e.notify then s.valid else false := by rw [commit_eq]
@[simp] theorem commit_phase (e : Effect) (s : State) :
    (commit e s).phase = if e.notify then .waitBe else s.phase := by rw [commit_eq]
@[simp] theorem commit_pend (e : Effect) (s : State) :
    (commit e s).pend = if e.notify then e.resp else s.pend := by rw [commit_eq]
@[simp] theorem commit_txq (e : Effect) (s : State) :
    (commit e s).txq = if e.notify then s.txq else s.txq ++ e.resp := by rw [commit_eq]
@[simp] theorem commit_params (e : Effect) (s : State) : (commit e s).params = s.params := by rw [commit_eq]
@[simp] theorem commit_sr (e : Effect) (s : State) : (commit e s).sr = s.sr := by rw [commit_eq]
@[simp] theorem commit_count (e : Effect) (s : State) : (commit e s).count = s.count := by rw [commit_eq]
@[simp] theorem commit_halted (e : Effect) (s : State) : (commit e s).halted = s.halted := by rw [commit_eq]
@[simp] theorem commit_rxLine (e : Effect) (s : State) : (commit e s).rxLine = s.rxLine := by rw [commit_eq]
@[simp] theorem commit_sched (e : Effect) (s : State) : (commit e s).sched = s.sched := by rw [commit_eq]
@[simp] theorem commit_logQueue (e : Effect) (s : State) : (commit e s).logQueue = s.logQueue := by rw [commit_eq]
@[simp] theorem commit_cycles (e : Effect) (s : State) : (commit e s).cycles = s.cycles := by rw [commit_eq]

end Sys2Proof.Machine
end

