-- ==== Sys2Proof/Laws/Ops.lean ====
section
/-! SUPPORT. What each step of 10_state.md R50 can do, said once: the state after it when it is enabled, and that it changes
nothing when it is not; then what a scheduled step and a step of the model can be. -/

namespace Sys2Proof.Machine

/-- Dispatch is enabled exactly under the conditions of 42_dispatch.md R140. -/
theorem dispatchEnabled_iff (s : State) :
    dispatchEnabled s = true ↔
      s.halted = false ∧ s.valid = true ∧ s.phase = .idle ∧ hasRoom s (rlen s.sr.d4) = true := by
  simp [dispatchEnabled, and_assoc]

/-- The room test, case by case of TXQ_DEPTH. -/
theorem hasRoom_iff (s : State) (n : Nat) :
    hasRoom s n = true ↔ ∀ d, s.params.txqDepth = some d → s.txq.length + n ≤ d := by
  unfold hasRoom
  cases s.params.txqDepth <;> simp

theorem beReq_iff (s : State) : beReq s = true ↔ s.phase = .waitBe ∧ s.halted = false := by simp [beReq]
theorem rxReady_iff (s : State) : rxReady s = true ↔ s.halted = false ∧ s.valid = false := by simp [rxReady]

@[simp] theorem hasRoom_takeMove (r : List Move) (s : State) (n : Nat) : hasRoom (takeMove r s) n = hasRoom s n := rfl
@[simp] theorem dispatchEnabled_takeMove (r : List Move) (s : State) :
    dispatchEnabled (takeMove r s) = dispatchEnabled s := rfl
@[simp] theorem beReq_takeMove (r : List Move) (s : State) : beReq (takeMove r s) = beReq s := rfl
@[simp] theorem rxReady_takeMove (r : List Move) (s : State) : rxReady (takeMove r s) = rxReady s := rfl
@[simp] theorem fetchInstr_takeMove (r : List Move) (s : State) : fetchInstr (takeMove r s) = fetchInstr s := rfl

/-- A legal frequency, spelled out (70_reset_and_hazards.md R262). -/
theorem freqLegal_iff (f : Hz) : freqLegal f = true ↔ f.toNat % 10 = 0 ∧ f.toNat ≤ 999999990 := by
  simp [freqLegal, Config.freqRes, Config.freqMax]

/-- A legal configuration, spelled out (70_reset_and_hazards.md R262). -/
theorem cfgLegal_iff (cfg : Cfg) :
    cfgLegal cfg = true ↔
      (cfg.freq.toNat % 10 = 0 ∧ cfg.freq.toNat ≤ 999999990) ∧
      ((cfgFreqB cfg).toNat % 10 = 0 ∧ (cfgFreqB cfg).toNat ≤ 999999990) ∧ isMode cfg.mode = true := by
  rw [cfgLegal, Bool.and_eq_true, Bool.and_eq_true, freqLegal_iff, freqLegal_iff, and_assoc]

theorem dispatchStep_enabled {s : State} (h : dispatchEnabled s = true) :
    dispatchStep s = exec (fetchInstr s) s := by simp [dispatchStep, h]

theorem dispatchStep_waits {s : State} (h : dispatchEnabled s = false) : dispatchStep s = .next s := by
  simp [dispatchStep, h]

theorem rxByte_fifth {s : State} (h : rxReady s = true) (hc : s.count = 4) (b : Byte) :
    rxByte b s = { s with sr := shiftIn b s.sr, count := 0, valid := true } := by simp [rxByte, h, hc]

theorem rxByte_early {s : State} (h : rxReady s = true) (hc : s.count ≠ 4) (b : Byte) :
    rxByte b s = { s with sr := shiftIn b s.sr, count := s.count + 1 } := by
  rw [rxByte, if_pos h, if_neg hc]

theorem rxByte_refused {s : State} (h : rxReady s = false) (b : Byte) : rxByte b s = s := by simp [rxByte, h]

/-- An offered byte is taken by `rxByte`, or it stays with the transport and nothing changes. -/
theorem rxOffer_cases (s : State) :
    (rxOffer s = s ∧ (s.rxLine = [] ∨ rxReady s = false)) ∨
    ∃ b rest, s.rxLine = b :: rest ∧ rxReady s = true ∧ rxOffer s = rxByte b { s with rxLine := rest } := by
  unfold rxOffer
  rcases hl : s.rxLine with _ | ⟨b, rest⟩
  · exact .inl ⟨rfl, .inl rfl⟩
  · rcases hr : rxReady s with _ | _
    · exact .inl ⟨rfl, .inr rfl⟩
    · exact .inr ⟨b, rest, rfl, rfl, rfl⟩

theorem beAck_enabled {s : State} (h : beReq s = true) :
    beAck s = { s with txq := s.txq ++ s.pend, pend := [], phase := .idle, valid := false } := by simp [beAck, h]

theorem beAck_ignored {s : State} (h : beReq s = false) : beAck s = s := by simp [beAck, h]

/-- TxByte takes the head of the queue, or changes nothing. -/
theorem txByte_cases (s : State) :
    txByte s = s ∨ ∃ b rest, s.halted = false ∧ s.txq = b :: rest ∧
      txByte s = { s with txq := rest, trace := s.trace ++ [.tx b] } := by
  unfold txByte
  rcases hh : s.halted with _ | _
  · rcases hq : s.txq with _ | ⟨b, rest⟩
    · exact .inl rfl
    · exact .inr ⟨b, rest, rfl, rfl, by simp [emit]⟩
  · exact .inl rfl

theorem beFail_running {s : State} (h : s.halted = false) : beFail s = logEvent .backendFail 0 s := by simp [beFail, h]
theorem beFail_halted {s : State} (h : s.halted = true) : beFail s = s := by simp [beFail, h]
theorem xportErr_running {s : State} (h : s.halted = false) :
    xportErr s = haltEntry (logEvent .transportFail 0 s) := by simp [xportErr, h]
theorem xportErr_halted {s : State} (h : s.halted = true) : xportErr s = s := by simp [xportErr, h]
theorem terminate_running {s : State} (h : s.halted = false) : terminate s = haltEntry s := by simp [terminate, h]
theorem terminate_halted {s : State} (h : s.halted = true) : terminate s = s := by simp [terminate, h]

/-- Reset answers the reset state, or refuses an illegal configuration. -/
theorem resetStep_next {cfg : Cfg} {s t : State} (h : resetStep cfg s = .next t) :
    cfgLegal cfg = true ∧ t = resetTo cfg s := by
  unfold resetStep at h
  split at h
  · exact ⟨by assumption, by cases h; rfl⟩
  · cases h

/-- The internal step always answers a next state: the frame's outcome committed, or the state itself. -/
theorem dispatchStep_next (s : State) :
    dispatchStep s = .next s ∨
    dispatchEnabled s = true ∧
      dispatchStep s = .next (commit (outcome (fetchInstr s) s.params.ackOff s.ts) s) := by
  rcases h : dispatchEnabled s with _ | _
  · exact .inl (dispatchStep_waits h)
  · exact .inr ⟨rfl, by rw [dispatchStep_enabled h, exec_eq_commit]⟩

/-- The dispatch of a clock cycle always answers a next state. -/
theorem cycleDispatch_next (d : Bool) (a s : State) :
    cycleDispatch d a s = .next s ∨
    d = true ∧ dispatchEnabled a = true ∧
      cycleDispatch d a s = .next (commit (outcome (fetchInstr s) s.params.ackOff s.ts) s) := by
  unfold cycleDispatch
  cases d <;> cases h : dispatchEnabled a <;> simp [exec_eq_commit]

/-- The steps of a clock cycle always answer a next state. -/
theorem cycleSteps_next (d : Bool) (p : PortIn) (s : State) :
    ∃ u, cycleDispatch d (preempt p s) (transfers p (preempt p s)) = .next u ∧
      cycleSteps d p s = .next (cycleBeFail p u) := by
  rcases cycleDispatch_next d (preempt p s) (transfers p (preempt p s)) with h | ⟨_, _, h⟩ <;>
    exact ⟨_, h, by simp [cycleSteps, h]⟩

@[simp] theorem portOut_beReq (d : Bool) (p : PortIn) (s : State) : (portOut d p s).beReq = beReq s := rfl
@[simp] theorem portOut_halted (d : Bool) (p : PortIn) (s : State) : (portOut d p s).halted = s.halted := rfl
@[simp] theorem portOut_logValid (d : Bool) (p : PortIn) (s : State) :
    (portOut d p s).logValid = (logShown d p s).isSome := rfl

/-- Nothing halts a block in a cycle without `xport_err` and `terminate`. -/
theorem preempt_quiet {p : PortIn} (hx : p.xportErr = false) (ht : p.terminate = false) (s : State) : preempt p s = s := by
  simp [preempt, hx, ht]

/-- A halted block stays as it is. -/
theorem preempt_halted {s : State} (h : s.halted = true) (p : PortIn) : preempt p s = s := by
  cases hx : p.xportErr <;> cases ht : p.terminate <;> simp [preempt, hx, ht, xportErr_halted h, terminate_halted h]

/-- In a halted state nothing of a cycle happens after `xport_err` and `terminate`. -/
theorem cycleSteps_halted {s : State} {p : PortIn} (h : (preempt p s).halted = true) (d : Bool) :
    cycleSteps d p s = .next (preempt p s) := by
  simp [cycleSteps, transfers, txValid, rxReady, beReq, h, cycleDispatch, dispatchEnabled, cycleBeFail, beFail]

/-- What the log port shows in a cycle with `rst = 0`. -/
theorem logShown_of_next {d : Bool} {p : PortIn} {s u : State} (hr : p.rst = false) (h : cycleSteps d p s = .next u) :
    logShown d p s = (logWaiting s u).head? := by
  simp [logShown, hr, h]

/-- A cycle with `rst = 1` is one of a reset that is held, which changes the cycle count alone, or it is the reset. -/
theorem resetCycle_next {cfg : Cfg} {s t : State} (h : resetCycle cfg s = .next t) :
    (rstHeld s = true ∧ t = { s with cycles := s.cycles + 1 }) ∨
    (rstHeld s = false ∧ cfgLegal cfg = true ∧ t = { resetTo cfg s with cycles := s.cycles + 1 }) := by
  unfold resetCycle resetStep at h
  rcases hr : rstHeld s with _ | _
  · rcases hc : cfgLegal cfg with _ | _ <;> simp [hr, hc] at h
    exact .inr ⟨rfl, rfl, h.symm⟩
  · simp [hr] at h
    exact .inl ⟨rfl, h.symm⟩

/-- A cycle with `rst = 1` is refused only in the last cycle of a reset, for its configuration. -/
theorem resetCycle_refused {cfg : Cfg} {s : State} {r : Refusal} (h : resetCycle cfg s = .refused r) :
    rstHeld s = false ∧ cfgLegal cfg = false ∧ r = .illegalConfiguration cfg := by
  unfold resetCycle resetStep at h
  rcases hr : rstHeld s with _ | _ <;> rcases hc : cfgLegal cfg with _ | _ <;> simp [hr, hc] at h
  exact ⟨rfl, rfl, h.symm⟩

/-- A clock cycle is one of a reset when `rst = 1`, and else the steps of the cycle followed by its end. -/
theorem clockCycle_next {d : Bool} {p : PortIn} {s t : State} (h : clockCycle d p s = .next t) :
    (p.rst = true ∧ rstHeld s = true ∧ t = { s with cycles := s.cycles + 1 }) ∨
    (p.rst = true ∧ rstHeld s = false ∧ cfgLegal p.cfg = true ∧ t = { resetTo p.cfg s with cycles := s.cycles + 1 }) ∨
    (p.rst = false ∧ ∃ u, cycleSteps d p s = .next u ∧ t = endCycle s u) := by
  rcases hr : p.rst with _ | _
  · obtain ⟨u, -, hu⟩ := cycleSteps_next d p s
    refine .inr (.inr ⟨rfl, _, hu, ?_⟩)
    simp [clockCycle, hr, hu] at h
    exact h.symm
  · simp only [clockCycle, hr, if_true] at h
    rcases resetCycle_next h with ⟨h1, h2⟩ | ⟨h1, h2, h3⟩
    · exact .inl ⟨rfl, h1, h2⟩
    · exact .inr (.inl ⟨rfl, h1, h2, h3⟩)

/-- A step performs the scheduled step, or with nothing scheduled the block's own. -/
theorem step_cases (s : State) :
    (s.sched = [] ∧ step s = dispatchStep s) ∨
    ∃ m rest, s.sched = m :: rest ∧ step s = perform m (takeMove rest s) := by
  unfold step nextStep
  rcases h : s.sched with _ | ⟨m, rest⟩
  · exact .inl ⟨rfl, rfl⟩
  · exact .inr ⟨m, rest, rfl, rfl⟩

end Sys2Proof.Machine
end

