-- ==== Sys2Proof/Laws/PerInstr.lean ====
section
/-! SUPPORT. Statements for all instructions, made per instruction.

`EncodedOpcode`: the encoder gives a well-formed instruction an opcode byte of its own class, listed exactly when the
instruction is not UNKNOWN (30_encoding.md R87 to R89). -/

namespace Sys2Proof.Laws

/-- True of UNKNOWN alone. -/
def isUnknown : Instr → Bool
  | .setfreq _ => false
  | .getfreq _ => false
  | .txstat _ => false
  | .rxstat _ => false
  | .rdeeprom _ => false
  | .vfotog _ => false
  | .locktog _ => false
  | .spliton _ => false
  | .splitoff _ => false
  | .claron _ => false
  | .claroff _ => false
  | .setmode _ _ _ _ => false
  | .ptton _ => false
  | .pttoff _ => false
  | .getkey _ => false
  | .uns09 _ => false
  | .uns0A _ => false
  | .uns0B _ => false
  | .uns0C _ => false
  | .uns0F _ => false
  | .uns8F _ => false
  | .unsA7 _ => false
  | .unsBA _ => false
  | .unsBC _ => false
  | .unsBE _ => false
  | .unsF9 _ => false
  | .txmeter _ => false
  | .setclarf _ => false
  | .unknown _ _ => true

/-- The opcode of the encoding of a well-formed instruction is listed iff the instruction is not UNKNOWN. -/
def EncodedOpcode.Statement (i : Instr) : Prop := wellFormed i = true → isListed (encode i).d4 = !isUnknown i

theorem EncodedOpcode.setfreq (x : Payload) : EncodedOpcode.Statement (.setfreq x) := fun _ => rfl
theorem EncodedOpcode.getfreq (x : Payload) : EncodedOpcode.Statement (.getfreq x) := fun _ => rfl
theorem EncodedOpcode.txstat (x : Payload) : EncodedOpcode.Statement (.txstat x) := fun _ => rfl
theorem EncodedOpcode.rxstat (x : Payload) : EncodedOpcode.Statement (.rxstat x) := fun _ => rfl
theorem EncodedOpcode.rdeeprom (x : Payload) : EncodedOpcode.Statement (.rdeeprom x) := fun _ => rfl
theorem EncodedOpcode.vfotog (x : Payload) : EncodedOpcode.Statement (.vfotog x) := fun _ => rfl
theorem EncodedOpcode.locktog (x : Payload) : EncodedOpcode.Statement (.locktog x) := fun _ => rfl
theorem EncodedOpcode.spliton (x : Payload) : EncodedOpcode.Statement (.spliton x) := fun _ => rfl
theorem EncodedOpcode.splitoff (x : Payload) : EncodedOpcode.Statement (.splitoff x) := fun _ => rfl
theorem EncodedOpcode.claron (x : Payload) : EncodedOpcode.Statement (.claron x) := fun _ => rfl
theorem EncodedOpcode.claroff (x : Payload) : EncodedOpcode.Statement (.claroff x) := fun _ => rfl
theorem EncodedOpcode.setmode (m x1 x2 x3 : Byte) : EncodedOpcode.Statement (.setmode m x1 x2 x3) := fun _ => rfl
theorem EncodedOpcode.ptton (x : Payload) : EncodedOpcode.Statement (.ptton x) := fun _ => rfl
theorem EncodedOpcode.pttoff (x : Payload) : EncodedOpcode.Statement (.pttoff x) := fun _ => rfl
theorem EncodedOpcode.getkey (x : Payload) : EncodedOpcode.Statement (.getkey x) := fun _ => rfl
theorem EncodedOpcode.uns09 (x : Payload) : EncodedOpcode.Statement (.uns09 x) := fun _ => rfl
theorem EncodedOpcode.uns0A (x : Payload) : EncodedOpcode.Statement (.uns0A x) := fun _ => rfl
theorem EncodedOpcode.uns0B (x : Payload) : EncodedOpcode.Statement (.uns0B x) := fun _ => rfl
theorem EncodedOpcode.uns0C (x : Payload) : EncodedOpcode.Statement (.uns0C x) := fun _ => rfl
theorem EncodedOpcode.uns0F (x : Payload) : EncodedOpcode.Statement (.uns0F x) := fun _ => rfl
theorem EncodedOpcode.uns8F (x : Payload) : EncodedOpcode.Statement (.uns8F x) := fun _ => rfl
theorem EncodedOpcode.unsA7 (x : Payload) : EncodedOpcode.Statement (.unsA7 x) := fun _ => rfl
theorem EncodedOpcode.unsBA (x : Payload) : EncodedOpcode.Statement (.unsBA x) := fun _ => rfl
theorem EncodedOpcode.unsBC (x : Payload) : EncodedOpcode.Statement (.unsBC x) := fun _ => rfl
theorem EncodedOpcode.unsBE (x : Payload) : EncodedOpcode.Statement (.unsBE x) := fun _ => rfl
theorem EncodedOpcode.unsF9 (x : Payload) : EncodedOpcode.Statement (.unsF9 x) := fun _ => rfl
theorem EncodedOpcode.txmeter (x : Payload) : EncodedOpcode.Statement (.txmeter x) := fun _ => rfl
theorem EncodedOpcode.setclarf (x : Payload) : EncodedOpcode.Statement (.setclarf x) := fun _ => rfl
theorem EncodedOpcode.unknown (op : Byte) (x : Payload) : EncodedOpcode.Statement (.unknown op x) := fun h => by
  have h' : (!isListed op) = true := h
  show isListed op = false
  simpa using h'

end Sys2Proof.Laws
end

