-- ==== Sys2Proof/Laws/Run.lean ====
section
/-! SUPPORT. What a list of events holds (log records, response bytes), and runs of several steps: one step at a time, and one
run after another. -/

namespace Sys2Proof.Machine

/-- A step with something scheduled performs it. -/
theorem step_scheduled {s : State} {m : Move} {rest : List Move} (h : s.sched = m :: rest) :
    step s = perform m (takeMove rest s) := by
  simp [step, nextStep, h]

@[simp] theorem logOfEvent_log (r : LogRecord) : logOfEvent (.log r) = some r := rfl
@[simp] theorem logOfEvent_tx (b : Byte) : logOfEvent (.tx b) = none := rfl
@[simp] theorem logOfEvent_notify : logOfEvent .notify = none := rfl
@[simp] theorem logOfEvent_shutdown : logOfEvent .shutdown = none := rfl

/-- The bytes that have left, over an extended trace. -/
theorem sentBytes_append (a b : List Event) : sentBytes (a ++ b) = sentBytes a ++ sentBytes b := by
  simp [sentBytes]

@[simp] theorem sentBytes_nil : sentBytes [] = [] := rfl
@[simp] theorem sentBytes_tx (b : Byte) (es : List Event) : sentBytes (.tx b :: es) = b :: sentBytes es := rfl
@[simp] theorem sentBytes_notify (es : List Event) : sentBytes (.notify :: es) = sentBytes es := rfl
@[simp] theorem sentBytes_log (r : LogRecord) (es : List Event) : sentBytes (.log r :: es) = sentBytes es := rfl
@[simp] theorem sentBytes_shutdown (es : List Event) : sentBytes (.shutdown :: es) = sentBytes es := rfl

@[simp] theorem runSteps_zero (s : State) : runSteps 0 s = .next s := rfl

/-- What a run of at least one step is, for any machine behind the host's interface. -/
theorem core_run_succ (M : Host.Core) (s : M.State) (n : Nat) :
    M.run (n + 1) s =
      match M.step s with
      | .next t => M.run n t
      | .fault r => .fault r
      | .refused r => .refused r := rfl

/-- A run begins with a step. -/
theorem runSteps_succ {s t : State} (h : step s = .next t) (n : Nat) : runSteps (n + 1) s = runSteps n t := by
  have h' : Sys2Proof.core.step s = .next t := h
  have e := core_run_succ Sys2Proof.core s n
  rw [h'] at e
  exact e

/-- A run of at least one step that does not stop has a first step that does not stop. -/
theorem runSteps_succ_next {s u : State} {n : Nat} (h : runSteps (n + 1) s = .next u) :
    ∃ t, step s = .next t ∧ runSteps n t = .next u := by
  have e := core_run_succ Sys2Proof.core s n
  rcases hs : step s with t | r | r
  · exact ⟨t, rfl, (runSteps_succ hs n).symm.trans h⟩
  · have h' : Sys2Proof.core.step s = .fault r := hs
    rw [h'] at e
    exact absurd (e.symm.trans h) (by simp)
  · have h' : Sys2Proof.core.step s = .refused r := hs
    rw [h'] at e
    exact absurd (e.symm.trans h) (by simp)

/-- A run goes on from where a shorter one stands. -/
theorem runSteps_add {s t : State} {m : Nat} (h : runSteps m s = .next t) (n : Nat) :
    runSteps (m + n) s = runSteps n t := by
  induction m generalizing s with
  | zero => cases h; simp
  | succ m ih =>
    obtain ⟨u, hs, hu⟩ := runSteps_succ_next h
    rw [show m + 1 + n = m + n + 1 by omega, runSteps_succ hs, ih hu]

end Sys2Proof.Machine
end

