-- ==== Sys2Proof/Tests/Slice0.lean ====
section
/-! SUPPORT. The model's own tests, each on one operation or one step, with the expected results of 95_test_vectors.md (named
there W, V, FA, E, P) or of the rule cited; then, for every statement with hypotheses, a witness that meets them all. -/

namespace Sys2Proof.Tests

open Sys2Proof Sys2Proof.Machine

/-! ### Helpers -/

/-- The base state S0 of 95_test_vectors.md. -/
def s0 : State := State.reset

/-- A payload of zeros. -/
def zeros : Payload := ⟨0x00, 0x00, 0x00, 0x00⟩

/-- S0 with another TS. -/
def withTs (ts : TS) : State := { s0 with ts := ts }

/-- TS, the trace and the response (queued or held) after an outcome. -/
def view : Host.Outcome State Fault Refusal → Option (TS × List Event × List Byte)
  | .next t => some (t.ts, t.trace, t.txq ++ t.pend)
  | .fault _ => none
  | .refused _ => none

/-- The outcome of one frame in a state. -/
def run1 (f : Frame) (s : State) : Option (TS × List Event × List Byte) := view (exec (decodeFrame f) s)

/-- The frame with an opcode and a payload of zeros. -/
def bare (op : Byte) : Frame := ⟨0x00, 0x00, 0x00, 0x00, op⟩

/-- One log event. -/
def logEv (c : Cause) (sev : Severity) (w : FrameWord) : List Event := [.log { cause := c, sev := sev, word := w }]

/-- The state an outcome answers, or the given one. -/
def after (d : State) : Host.Outcome State Fault Refusal → State
  | .next t => t
  | .fault _ => d
  | .refused _ => d

/-! ### Well-formedness, decoding, encoding -/

theorem test_wellFormed_refuses_listed_unknown : wellFormed (.unknown 0x01 zeros) = false := by decide
theorem test_wellFormed_accepts_unlisted : wellFormed (.unknown 0x80 zeros) = true := by decide

/-- 28 opcode values are listed, so 228 are not (30_encoding.md R87). -/
theorem test_listed_count : listedOpcodes.length = 28 ∧ listedOpcodes.Nodup := by decide

/-- Frequency and VFO words, 30_encoding.md R88. -/
theorem test_decode_frequency :
    decodeFrame ⟨0x01, 0x40, 0x74, 0x00, 0x01⟩ = .setfreq ⟨0x01, 0x40, 0x74, 0x00⟩ ∧
    decodeFrame (bare 0x03) = .getfreq zeros ∧ decodeFrame (bare 0x81) = .vfotog zeros := by decide

/-- Status read words, 30_encoding.md R88. -/
theorem test_decode_status :
    decodeFrame (bare 0xF7) = .txstat zeros ∧ decodeFrame (bare 0xE7) = .rxstat zeros ∧
    decodeFrame ⟨0x00, 0x55, 0xAA, 0x00, 0xBB⟩ = .rdeeprom ⟨0x00, 0x55, 0xAA, 0x00⟩ ∧
    decodeFrame (bare 0x10) = .getkey zeros := by decide

/-- Flag words, 30_encoding.md R88. -/
theorem test_decode_flags :
    decodeFrame (bare 0x00) = .locktog zeros ∧ decodeFrame (bare 0x02) = .spliton zeros ∧
    decodeFrame (bare 0x82) = .splitoff zeros ∧ decodeFrame (bare 0x05) = .claron zeros ∧
    decodeFrame (bare 0x85) = .claroff zeros ∧ decodeFrame (bare 0x08) = .ptton zeros ∧
    decodeFrame (bare 0x88) = .pttoff zeros := by decide

/-- The mode word, 30_encoding.md R88. -/
theorem test_decode_setmode : decodeFrame ⟨0x0C, 0xFF, 0xFE, 0xFD, 0x07⟩ = .setmode 0x0C 0xFF 0xFE 0xFD := by decide

/-- Unsupported words, 30_encoding.md R88. -/
theorem test_decode_unsupported :
    decodeFrame (bare 0x09) = .uns09 zeros ∧ decodeFrame (bare 0x0A) = .uns0A zeros ∧
    decodeFrame (bare 0x0B) = .uns0B zeros ∧ decodeFrame (bare 0x0C) = .uns0C zeros ∧
    decodeFrame (bare 0x0F) = .uns0F zeros ∧ decodeFrame (bare 0x8F) = .uns8F zeros ∧
    decodeFrame (bare 0xA7) = .unsA7 zeros ∧ decodeFrame (bare 0xBA) = .unsBA zeros ∧
    decodeFrame (bare 0xBC) = .unsBC zeros ∧ decodeFrame (bare 0xBE) = .unsBE zeros ∧
    decodeFrame (bare 0xF9) = .unsF9 zeros := by decide

/-- Stub and unknown words, 30_encoding.md R88, R89. -/
theorem test_decode_stub_unknown :
    decodeFrame (bare 0xBD) = .txmeter zeros ∧ decodeFrame ⟨0x00, 0x00, 0x12, 0x34, 0xF5⟩ = .setclarf ⟨0x00, 0x00, 0x12, 0x34⟩ ∧
    decodeFrame (bare 0x80) = .unknown 0x80 zeros ∧ decodeFrame (bare 0xFF) = .unknown 0xFF zeros := by decide

/-- Fewer than five bytes are refused by name (30_encoding.md R80). -/
theorem test_decode_short : decode [0x01, 0x40, 0x74, 0x00] = .error (.shortFrame 4) := by rfl

/-- The frame word has d0 in bits 39:32 (00_scope.md R13). -/
theorem test_frameWord : frameWord ⟨0x01, 0x4A, 0x74, 0x00, 0x01⟩ = 0x014A740001 := by decide

/-- Table words: the numbering of opcode_table.json is that of W (30_encoding.md R91). -/
theorem test_decodeTableWord :
    decodeTableWord 40 0x0140740001 = some (.setfreq ⟨0x01, 0x40, 0x74, 0x00⟩) ∧
    decodeTableWord 8 0xF7 = some (.txstat zeros) ∧ decodeTableWord 40 0x80 = some (.unknown 0x80 zeros) ∧
    decodeTableWord 40 0x10000000003 = none := by decide

/-! ### The codec (95_test_vectors.md 2.1, 2.2) -/

theorem test_pack_values :
    pack 9 = ⟨0x00, 0x00, 0x00, 0x00, false⟩ ∧ pack 14074000 = ⟨0x01, 0x40, 0x74, 0x00, false⟩ ∧
    pack 123456780 = ⟨0x12, 0x34, 0x56, 0x78, false⟩ := by decide

theorem test_pack_top :
    pack 999999999 = ⟨0x99, 0x99, 0x99, 0x99, false⟩ ∧ pack 1000000000 = ⟨0x99, 0x99, 0x99, 0x99, true⟩ ∧
    pack 4294967295 = ⟨0x99, 0x99, 0x99, 0x99, true⟩ := by decide

theorem test_unpack_good :
    unpack 0x12 0x34 0x56 0x78 = ⟨123456780, false⟩ ∧ unpack 0x99 0x99 0x99 0x99 = ⟨999999990, false⟩ ∧
    unpack 0x00 0x00 0x00 0x03 = ⟨30, false⟩ := by decide

theorem test_unpack_malformed :
    unpack 0x0A 0x00 0x00 0x00 = ⟨100000000, true⟩ ∧ unpack 0xA0 0x00 0x00 0x00 = ⟨1000000000, true⟩ ∧
    unpack 0x01 0x4A 0x74 0x00 = ⟨15074000, true⟩ ∧ unpack 0xFF 0xFF 0xFF 0xFF = ⟨1666666650, true⟩ := by decide

/-- The example of 40_codec.md R110. -/
theorem test_codec_ports : packPort 14074000 = (0x01407400, false) ∧ unpackPort 0x01407400 = (14074000, false) := by decide

/-! ### The instructions (95_test_vectors.md 2.4) -/

theorem test_setfreq_V01_V02 :
    run1 ⟨0x01, 0x40, 0x74, 0x00, 0x01⟩ s0 = some ({ s0.ts with vfoA := 14074000 }, [.notify], [0x00]) ∧
    run1 ⟨0x01, 0x40, 0x74, 0x00, 0x01⟩ (withTs { s0.ts with activeVFO := .B }) =
      some ({ s0.ts with activeVFO := .B, vfoB := 14074000 }, [.notify], [0x00]) := by decide

theorem test_setfreq_V06 :
    run1 ⟨0x01, 0x4A, 0x74, 0x00, 0x01⟩ s0 = some (s0.ts, logEv .malformedBcd .warning 0x014A740001, [0x00]) := by decide

theorem test_getfreq_V08_V09 :
    run1 (bare 0x03) s0 = some (s0.ts, [], [0x00, 0x70, 0x74, 0x00, 0x01]) ∧
    run1 ⟨0x12, 0x34, 0x56, 0x78, 0x03⟩ (withTs { s0.ts with activeVFO := .B, vfoB := 3573000, mode := 0x02 }) =
      some ({ s0.ts with activeVFO := .B, vfoB := 3573000, mode := 0x02 }, [], [0x00, 0x35, 0x73, 0x00, 0x02]) := by decide

theorem test_txstat_V11_to_V14 :
    run1 (bare 0xF7) s0 = some (s0.ts, [], [0x80]) ∧
    run1 (bare 0xF7) (withTs { s0.ts with split := true }) = some ({ s0.ts with split := true }, [], [0xA0]) ∧
    run1 (bare 0xF7) (withTs { s0.ts with ptt := true }) = some ({ s0.ts with ptt := true }, [], [0x00]) ∧
    run1 (bare 0xF7) (withTs { s0.ts with ptt := true, split := true }) =
      some ({ s0.ts with ptt := true, split := true }, [], [0x20]) := by decide

theorem test_rxstat_V15 :
    run1 (bare 0xE7) (withTs { s0.ts with ptt := true }) = some ({ s0.ts with ptt := true }, [], [0x00]) := by decide

theorem test_rdeeprom_V16 : run1 ⟨0x00, 0x55, 0xAA, 0x00, 0xBB⟩ s0 = some (s0.ts, [], [0x00, 0x00]) := by decide

theorem test_vfotog_V17_V18 :
    run1 (bare 0x81) s0 = some ({ s0.ts with activeVFO := .B }, [.notify], [0x00]) ∧
    run1 (bare 0x81) (withTs { s0.ts with activeVFO := .B }) = some (s0.ts, [.notify], [0x00]) := by decide

theorem test_locktog_V19_V20 :
    run1 (bare 0x00) s0 = some ({ s0.ts with lock := true }, [], [0xF0]) ∧
    run1 (bare 0x00) (withTs { s0.ts with lock := true }) = some (s0.ts, [], [0x00]) := by decide

theorem test_spliton_V21_V22 :
    run1 (bare 0x02) s0 = some ({ s0.ts with split := true }, [], [0x00]) ∧
    run1 (bare 0x02) (withTs { s0.ts with split := true }) = some (s0.ts, [], [0xF0]) := by decide

theorem test_splitoff_V23_V24 :
    run1 (bare 0x82) (withTs { s0.ts with split := true }) = some (s0.ts, [], [0x00]) ∧
    run1 (bare 0x82) s0 = some (s0.ts, [], [0xF0]) := by decide

/-- The PRIOR_VALUE column of V23 and V27. -/
theorem test_off_prior_value :
    run1 (bare 0x82) { s0 with params.ackOff := .priorValue, ts.split := true } = some (s0.ts, [], [0xF0]) ∧
    run1 (bare 0x85) { s0 with params.ackOff := .priorValue, ts.clar := true } = some (s0.ts, [], [0xF0]) := by decide

theorem test_claron_V25_V26 :
    run1 (bare 0x05) s0 = some ({ s0.ts with clar := true }, [], [0x00]) ∧
    run1 (bare 0x05) (withTs { s0.ts with clar := true }) = some ({ s0.ts with clar := true }, [], [0xF0]) := by decide

theorem test_claroff_V27_V28 :
    run1 (bare 0x85) (withTs { s0.ts with clar := true }) = some (s0.ts, [], [0x00]) ∧
    run1 (bare 0x85) s0 = some (s0.ts, [], [0xF0]) := by decide

theorem test_setmode_V29_V30 :
    run1 ⟨0x02, 0x00, 0x00, 0x00, 0x07⟩ s0 = some ({ s0.ts with mode := 0x02 }, [.notify], [0x00]) ∧
    run1 ⟨0x01, 0x00, 0x00, 0x00, 0x07⟩ s0 = some (s0.ts, [], [0x00]) := by decide

theorem test_setmode_V33_V35 :
    run1 ⟨0x99, 0x00, 0x00, 0x00, 0x07⟩ s0 = some (s0.ts, logEv .badMode .warning 0x9900000007, [0x00]) ∧
    run1 ⟨0x81, 0x00, 0x00, 0x00, 0x07⟩ s0 = some (s0.ts, logEv .badMode .warning 0x8100000007, [0x00]) := by decide

theorem test_ptton_V36_V37 :
    run1 (bare 0x08) s0 = some ({ s0.ts with ptt := true }, [], [0x00]) ∧
    run1 (bare 0x08) (withTs { s0.ts with ptt := true }) = some ({ s0.ts with ptt := true }, [], [0xF0]) := by decide

theorem test_pttoff_V38_V39 :
    run1 (bare 0x88) (withTs { s0.ts with ptt := true }) = some (s0.ts, [], [0x00]) ∧
    run1 (bare 0x88) s0 = some (s0.ts, [], [0xF0]) := by decide

theorem test_getkey_V40_V41 :
    run1 (bare 0x10) (withTs { s0.ts with ptt := true }) = some ({ s0.ts with ptt := true }, [], [0xF0]) ∧
    run1 (bare 0x10) s0 = some (s0.ts, [], [0x00]) := by decide

/-- V42 for the 11 unsupported opcodes. -/
theorem test_unsupported_V42 :
    ∀ op ∈ ([0x09, 0x0A, 0x0B, 0x0C, 0x0F, 0x8F, 0xA7, 0xBA, 0xBC, 0xBE, 0xF9] : List Byte),
      run1 (bare op) s0 = some (s0.ts, logEv .unsupported .low (frameWord (bare op)), []) := by decide

theorem test_txmeter_V43 :
    run1 (bare 0xBD) (withTs { s0.ts with ptt := true }) = some ({ s0.ts with ptt := true }, [], [0x00]) := by decide

theorem test_setclarf_V44 : run1 ⟨0x00, 0x00, 0x12, 0x34, 0xF5⟩ s0 = some (s0.ts, [], [0x00]) := by decide

/-- V45, for two of its opcodes. -/
theorem test_unknown_V45 :
    run1 (bare 0x80) s0 = some (s0.ts, logEv .unknownOpcode .warning 0x0000000080, []) ∧
    run1 (bare 0xFF) s0 = some (s0.ts, logEv .unknownOpcode .warning 0x00000000FF, []) := by decide

/-! ### The steps -/

/-- S0 with bytes on the line and one step scheduled. -/
def offered (line : List Byte) (m : Move) : State := { s0 with rxLine := line, sched := [m] }

/-- S0 with a complete frame in the assembler. -/
def framed (f : Frame) (sched : List Move) : State := { s0 with sr := f, valid := true, sched := sched }

/-- S0 after a VFOTOG, waiting for the backend (program D17 of E7). -/
def waiting (sched : List Move) : State :=
  { framed (bare 0x81) sched with phase := .waitBe, pend := [0x00], ts.activeVFO := .B, trace := [.notify] }

/-- FA1. -/
theorem test_FA1 :
    (after s0 (step (offered [0x01] .rx))).sr = ⟨0x00, 0x00, 0x00, 0x00, 0x01⟩ ∧
    (after s0 (step (offered [0x01] .rx))).count = 1 ∧ (after s0 (step (offered [0x01] .rx))).valid = false := by decide

/-- FA3: the fifth byte. -/
theorem test_FA3 :
    let t := after s0 (step { offered [0x01] .rx with sr := ⟨0x00, 0x01, 0x40, 0x74, 0x00⟩, count := 4 })
    t.sr = ⟨0x01, 0x40, 0x74, 0x00, 0x01⟩ ∧ t.count = 0 ∧ t.valid = true ∧ t.rxLine = [] := by decide

/-- FA6, FA7: a byte is not accepted while a frame is complete, nor while halted. -/
theorem test_FA6_FA7 :
    (after s0 (step { framed (bare 0x03) [.rx] with rxLine := [0x55] })).rxLine = [0x55] ∧
    (after s0 (step { offered [0x55] .rx with halted := true })).rxLine = [0x55] := by decide

/-- P5 step 2: a full queue holds the dispatch back. -/
theorem test_P5_full_queue :
    let s : State := { framed (bare 0x03) [.dispatch] with
      params.txqDepth := some 5, txq := [0x00, 0x70, 0x74, 0x00, 0x01] }
    (after s0 (step s)).valid = true ∧ (after s0 (step s)).txq = [0x00, 0x70, 0x74, 0x00, 0x01] := by decide

/-- E1, E2: BeFail logs and nothing else, in WAIT_BE too. -/
theorem test_E1_E2 :
    (after s0 (step { s0 with sched := [.beFail] })).trace = logEv .backendFail .alert 0 ∧
    (after s0 (step (waiting [.beFail]))).trace = .notify :: logEv .backendFail .alert 0 ∧
    (after s0 (step (waiting [.beFail]))).phase = .waitBe := by decide

/-- E3, E4, E5. -/
theorem test_E3_E4_E5 :
    (after s0 (step { s0 with sched := [.xportErr] })).trace = logEv .transportFail .fatal 0 ++ [.shutdown] ∧
    (after s0 (step { s0 with sched := [.terminate] })).trace = [.shutdown] ∧
    (after s0 (step { s0 with sched := [.xportErr], halted := true })).trace = [] := by decide

/-- E6: a reset leaves the halt. -/
theorem test_E6 :
    step { s0 with
        sched := [.reset { freq := 7074000, freqB := none, mode := 0x01, lock := false, split := false, clar := false }]
        halted := true, count := 3, txq := [0x55] } = .next s0 := by rfl

/-- E7: the held acknowledgement is never queued; the selector stays. -/
theorem test_E7 :
    let t := after s0 (step (waiting [.terminate]))
    t.trace = [.notify, .shutdown] ∧ t.ts.activeVFO = .B ∧ t.txq = [] ∧ t.halted = true := by decide

/-- BeAck queues the held response and frees the assembler. -/
theorem test_beAck :
    let t := after s0 (step (waiting [.beAck]))
    t.txq = [0x00] ∧ t.pend = [] ∧ t.phase = .idle ∧ t.valid = false := by decide

/-- The placed frame is what the next step runs. -/
theorem test_withFetchWord :
    view (step (s0.withFetchWord 40 0x0140740001)) = some ({ s0.ts with vfoA := 14074000 }, [.notify], [0x00]) ∧
    view (step (s0.withFetchWord 8 0x03)) = some (s0.ts, [], [0x00, 0x70, 0x74, 0x00, 0x01]) := by decide

/-! ### The port interface -/

/-- Input ports at rest, with a legal configuration on `cfg_*`. -/
def quiet : PortIn :=
  { rst := false
    cfg := { freq := 7074000, freqB := some 7074000, mode := 0x01, lock := false, split := false, clar := false }
    rxData := 0x00, rxValid := false, txReady := false, beAck := false, beFail := false, xportErr := false,
    terminate := false }

/-- A byte is taken in a cycle with valid and ready, and not while `rst = 1` (10_state.md R42, R43). -/
theorem test_cycle_rx :
    (after s0 (clockCycle false { quiet with rxValid := true, rxData := 0x55 } s0)).count = 1 ∧
    (portOut false { quiet with rxValid := true } s0).rxReady = true ∧
    (portOut false { quiet with rst := true } s0).rxReady = false := by decide

/-- Two log events of one cycle are shown in two cycles, in order (60_exceptions.md R241). -/
theorem test_cycle_two_logs :
    let s := framed (bare 0x0F) []
    let t := after s0 (clockCycle true { quiet with beFail := true } s)
    (portOut true { quiet with beFail := true } s).logCause = 3 ∧ (portOut false quiet t).logValid = true ∧
    (portOut false quiet t).logCause = 5 ∧ (portOut false quiet (after s0 (clockCycle false quiet t))).logValid = false := by
  decide

/-- The shutdown pulse comes with the halt, once (10_state.md R47). -/
theorem test_cycle_shutdown :
    let t := after s0 (clockCycle false { quiet with terminate := true } s0)
    (portOut false { quiet with terminate := true } s0).beShutdown = true ∧ t.halted = true ∧
    (portOut false { quiet with terminate := true } t).beShutdown = false := by decide

/-- A notification is seen as a rise of `be_req` even where the next cycle halts (10_state.md R45). -/
theorem test_cycle_be_req_rises :
    let s := framed (bare 0x81) []
    let t := after s0 (clockCycle true quiet s)
    (portOut true quiet s).beReq = false ∧ (portOut false { quiet with terminate := true } t).beReq = true ∧
    (portOut false quiet (after s0 (clockCycle false { quiet with terminate := true } t))).beReq = false := by decide

/-- Only the last cycle with `rst = 1` loads the configuration (10_state.md R53): while the reset is held `ts_*` stays, whatever
is on `cfg_*`. -/
theorem test_long_reset :
    let q : PortIn := { quiet with rst := true }
    let s : State := { s0 with ts.ptt := true
                               sched := [.cycle false { q with cfg := { q.cfg with freq := 5 } }, .cycle false q] }
    let t := after s0 (step s)
    t.ts = s.ts ∧ (after s0 (step t)).ts = s0.ts := by decide

/-! ### The assembler notation (30_encoding.md R92 to R94) -/

theorem test_assemble_P1_lines :
    assembleLine (.setfreq 14074000) = .ok [0x01, 0x40, 0x74, 0x00, 0x01] ∧
    assembleLine (.setmodeName .cw) = .ok [0x02, 0x00, 0x00, 0x00, 0x07] ∧
    assembleLine (.setmodeCode 0x99) = .ok [0x99, 0x00, 0x00, 0x00, 0x07] ∧
    assembleLine (.plain 0x0F) = .ok [0x00, 0x00, 0x00, 0x00, 0x0F] := ⟨by rfl, by rfl, by rfl, by rfl⟩

theorem test_assemble_refusals :
    assembleLine (.setfreq (-10)) = .error .badFrequency ∧ assembleLine (.setfreq 1000000000) = .error .badFrequency ∧
    assembleLine (.setmodeCode 256) = .error .badMode ∧ assembleLine (.frame [1, 2, 3, 4]) = .error .badByte :=
  ⟨by rfl, by rfl, by rfl, by rfl⟩

/-- A line of P2 and the raw line of P4, as text; case does not matter and a comment is skipped. -/
theorem test_assemble_text :
    assembleText "SetFreq 3573000 ; 00 35 73 00 01\n.raw 0x00, 0x00, 0x00, 0x03" =
      .ok [0x00, 0x35, 0x73, 0x00, 0x01, 0x00, 0x00, 0x00, 0x03] := by rfl

/-! ### Witnesses: for every statement with hypotheses, a state and operands that meet all of them -/

/-- A legal configuration at the top of the range. -/
def topCfg : Cfg := { freq := 999999990, freqB := none, mode := 0x0C, lock := true, split := true, clar := true }

/-- A configuration whose frequency is no multiple of 10. -/
def badCfg : Cfg := { topCfg with freq := 7074005 }

/-- What `exec` answers, as every meaning does. -/
theorem exec_answers (i : Instr) (s : State) : exec i s = .next (after s (exec i s)) := by
  rw [exec_eq_commit]; rfl

theorem witness_UnknownOpcodesLogAndStaySilent :
    ([0x01, 0x03, 0xF7, 0xE7, 0xBB, 0x81, 0x00, 0x02, 0x82, 0x05, 0x85, 0x07, 0x08, 0x88, 0x10, 0x09, 0x0A, 0x0B, 0x0C, 0x0F,
      0x8F, 0xA7, 0xBA, 0xBC, 0xBE, 0xF9, 0xBD, 0xF5] : List Byte).contains 0x04 = false := by decide

theorem witness_DecodeOfEncodeIsTheInstruction :
    wellFormed (.setfreq zeros) = true ∧ wellFormed (.unknown 0xFF zeros) = true ∧ wellFormed (.unknown 0x04 zeros) = true := by
  decide

theorem witness_CodecRoundTrips :
    ((999999990 : Hz).toNat < 10 ^ 9 ∧ (999999990 : Hz).toNat % 10 = 0) ∧
    ((0 : Hz).toNat < 10 ^ 9 ∧ (0 : Hz).toNat % 10 = 0) ∧
    (unpack 0x99 0x99 0x99 0x99).bad = false ∧ (unpack 0x00 0x00 0x00 0x00).bad = false := by decide

theorem witness_PackDigits : (999999999 : Hz).toNat < 10 ^ 9 ∧ 10 ^ 9 ≤ (1000000000 : Hz).toNat := by decide

theorem witness_UnpackRange : (unpack 0x99 0x99 0x99 0x99).bad = false ∧ (unpack 0xFF 0xFF 0xFF 0xFF).bad = true := by decide

/-- A full frame, with just enough room for its response. -/
def justRoom (sched : List Move) : State :=
  { framed (bare 0x03) sched with txq := [0x01, 0x02, 0x03] }

theorem witness_StepRunsTheDecodedFrame :
    decodeFrame (justRoom []).sr = .getfreq zeros ∧ (justRoom []).halted = false ∧ (justRoom []).valid = true ∧
    (justRoom []).phase = .idle ∧ hasRoom (justRoom []) (rlen (justRoom []).sr.d4) = true ∧ (justRoom []).sched = [] ∧
    (justRoom [.dispatch]).sched = .dispatch :: [] := by decide

theorem witness_ClockCycleRunsTheDecodedFrame :
    let s := justRoom [.cycle true quiet]
    s.sched = .cycle true quiet :: [] ∧ QuietIn quiet ∧ s.halted = false ∧ s.valid = true ∧ s.phase = .idle ∧
    hasRoom s (rlen s.sr.d4) = true := by decide

theorem witness_WithFetchWordRunsNext :
    ParamsLegal s0.params ∧ decodeTableWord 40 0xFFFFFFFFFF = some (.unknown 0xFF ⟨0xFF, 0xFF, 0xFF, 0xFF⟩) := by decide

/-- One state for each cause of waiting; in the last, the queue has room for four bytes of five. -/
theorem witness_DispatchWaitsUntilEnabled :
    ({ framed (bare 0x03) [.dispatch] with halted := true }).halted = true ∧
    ({ s0 with sched := [.dispatch] }).valid = false ∧ (waiting [.dispatch]).phase = .waitBe ∧
    ∃ d, s0.params.txqDepth = some d ∧ d < [0x01, 0x02, 0x03, (0x04 : Byte)].length + rlen 0x03 :=
  ⟨rfl, rfl, rfl, 8, rfl, by decide⟩

/-- At the third, the fourth and the fifth byte of a frame, and with a complete one. -/
theorem witness_RxByteShiftsAndCounts :
    (offered [0x55] .rx).sched = .rx :: [] ∧ (offered [0x55] .rx).rxLine = 0x55 :: [] ∧
    ({ offered [0x55] .rx with count := 3 }).count ≠ 4 ∧ ({ offered [0x55] .rx with count := 4 }).count = 4 ∧
    ({ offered [0x55] .rx with valid := true }).valid = true := by decide

/-- A stream with a byte lost: the last four bytes of one sent frame and the first of the next (program P4). -/
theorem witness_FiveAcceptedBytesAreTheFrame :
    let s : State := { s0 with rxLine := [0x00, 0x00, 0x00, 0x03] ++ [0x01] ++ [0x40, 0x74, 0x00, 0x01],
                               sched := [.rx, .rx, .rx, .rx, .rx] ++ [.dispatch] }
    s.halted = false ∧ s.valid = false ∧ s.count = 0 ∧
    s.rxLine = [0x00, 0x00, 0x00, 0x03, 0x01] ++ [0x40, 0x74, 0x00, 0x01] ∧
    s.sched = [.rx, .rx, .rx, .rx, .rx] ++ [.dispatch] := by decide

theorem witness_BeAckQueuesHeldResponse :
    (waiting [.beAck]).sched = .beAck :: [] ∧ (waiting [.beAck]).halted = false ∧ (waiting [.beAck]).phase = .waitBe ∧
    ({ s0 with sched := [.beAck] }).phase = .idle := by decide

theorem witness_TxByteSendsTheHead :
    ({ s0 with txq := [0x55], sched := [.tx] }).sched = .tx :: [] ∧ ({ s0 with sched := [.tx] }).txq = [] := by decide

theorem witness_BeFailOnlyLogs : (waiting [.beFail]).sched = .beFail :: [] ∧ (waiting [.beFail]).halted = false := by decide

theorem witness_HaltEntryStopsTheBlock :
    (waiting [.xportErr]).sched = .xportErr :: [] ∧ (waiting [.terminate]).sched = .terminate :: [] ∧
    (waiting [.terminate]).halted = false ∧ ({ waiting [.terminate] with halted := true }).halted = true := by decide

/-- A legal configuration at the top of the range, one below its bottom step, and one with a mode byte that is no mode. -/
theorem witness_ResetLoadsTheConfiguration :
    (topCfg.freq.toNat % 10 = 0 ∧ topCfg.freq.toNat ≤ 999999990) ∧
    ((topCfg.freqB.getD topCfg.freq).toNat % 10 = 0 ∧ (topCfg.freqB.getD topCfg.freq).toNat ≤ 999999990) ∧
    ([0x00, 0x01, 0x02, 0x03, 0x04, 0x08, 0x0A, 0x0C] : List Byte).contains topCfg.mode = true ∧
    ¬(badCfg.freq.toNat % 10 = 0 ∧ badCfg.freq.toNat ≤ 999999990) ∧
    ([0x00, 0x01, 0x02, 0x03, 0x04, 0x08, 0x0A, 0x0C] : List Byte).contains ({ topCfg with mode := 0x05 } : Cfg).mode = false ∧
    ({ s0 with sched := [.reset topCfg] } : State).sched = .reset topCfg :: [] := by decide

theorem witness_InvariantAtReset :
    ParamsLegal { txqDepth := some 5, ackOff := .priorValue } ∧ ParamsLegal { txqDepth := none, ackOff := .requested } ∧
    cfgLegal topCfg = true := by decide

/-- A state with the invariant that waits for the backend, and its step. -/
theorem witness_EveryStepKeepsTheInvariant :
    StateInv (waiting [.beAck]) ∧ step (waiting [.beAck]) = .next (after s0 (step (waiting [.beAck]))) :=
  ⟨by decide, by rfl⟩

theorem witness_ReachableStatesMeetTheInvariants :
    let p : Params := { txqDepth := some 5, ackOff := .requested }
    ParamsLegal p ∧ cfgLegal topCfg = true ∧
    runSteps 1 { State.initial p topCfg with rxLine := [0x55], sched := [.rx] } =
      .next (after s0 (runSteps 1 { State.initial p topCfg with rxLine := [0x55], sched := [.rx] })) :=
  ⟨by decide, by decide, by rfl⟩

theorem witness_NoStepStopsButForAnIllegalReset :
    SchedLegal { s0 with sched := [.reset topCfg, .cycle true { quiet with rst := true }, .rx] } ∧
    step { s0 with sched := [.reset badCfg] } = .refused (.illegalConfiguration badCfg) := ⟨by decide, by rfl⟩

/-- The three ways to perform a Dispatch that writes TS, and a step that performs none while a frame waits. -/
theorem witness_OnlyDispatchOrResetWritesTs :
    PerformsDispatch (framed (bare 0x08) []) ∧ PerformsDispatch (framed (bare 0x08) [.dispatch]) ∧
    PerformsDispatch (framed (bare 0x08) [.cycle true quiet]) ∧
    step (framed (bare 0x08) [.cycle true quiet]) = .next (after s0 (step (framed (bare 0x08) [.cycle true quiet]))) ∧
    (after s0 (step (framed (bare 0x08) [.cycle true quiet]))).ts ≠ s0.ts ∧
    ¬PerformsDispatch (framed (bare 0x08) [.tx]) ∧
    (∀ m rest, (framed (bare 0x08) [.tx]).sched = m :: rest → isResetMove m = false) ∧
    step (framed (bare 0x08) [.tx]) = .next (after s0 (step (framed (bare 0x08) [.tx]))) :=
  ⟨⟨by decide, .inl rfl⟩, ⟨by decide, .inr (.inl ⟨[], rfl⟩)⟩,
    ⟨by decide, .inr (.inr ⟨quiet, [], rfl, rfl, rfl, rfl⟩)⟩, by rfl, by decide,
    by (rintro ⟨-, h | ⟨_, h⟩ | ⟨_, _, h, -⟩⟩ <;> cases h), by rintro m rest ⟨⟩; rfl, by rfl⟩

theorem witness_WaitForBackendFreezesTs :
    (waiting [.beFail]).phase = .waitBe ∧ (waiting [.beFail]).valid = true ∧
    (∀ m rest, (waiting [.beFail]).sched = m :: rest → isResetMove m = false) ∧
    step (waiting [.beFail]) = .next (after s0 (step (waiting [.beFail]))) ∧
    (after s0 (step (waiting [.beFail]))).phase = .waitBe :=
  ⟨rfl, rfl, by rintro m rest ⟨⟩; rfl, by rfl, by rfl⟩

theorem witness_HaltedBlockChangesOnlyByReset :
    ({ waiting [.beAck] with halted := true }).halted = true ∧
    (∀ m rest, ({ waiting [.beAck] with halted := true }).sched = m :: rest → isResetMove m = false) :=
  ⟨rfl, by rintro m rest ⟨⟩; rfl⟩

/-- A reset of a block that has emitted something: the second clause's hypotheses too. -/
theorem witness_TraceIsNeverRetracted :
    let s := waiting [.reset topCfg]
    step s = .next (after s0 (step s)) ∧ s.sched = .reset topCfg :: [] ∧ isResetMove (.reset topCfg) = true ∧ s.trace ≠ [] :=
  ⟨by rfl, rfl, rfl, by decide⟩

theorem witness_ResponseLengthByOpcode :
    wellFormed (.getfreq zeros) = true ∧ s0.pend = [] ∧
    exec (.getfreq zeros) s0 = .next (after s0 (exec (.getfreq zeros) s0)) := ⟨rfl, rfl, exec_answers _ _⟩

/-- One dispatch that notifies, one that logs, one that does neither. -/
theorem witness_DispatchEmitsAtMostOneEvent :
    exec (.vfotog zeros) s0 = .next (after s0 (exec (.vfotog zeros) s0)) ∧
    exec (.setmode 0x99 0 0 0) s0 = .next (after s0 (exec (.setmode 0x99 0 0 0) s0)) ∧
    exec (.setmode 0x01 0 0 0) s0 = .next (after s0 (exec (.setmode 0x01 0 0 0) s0)) :=
  ⟨exec_answers _ _, exec_answers _ _, exec_answers _ _⟩

/-- A malformed SETFREQ: its record is the one event it adds. -/
theorem witness_LogRecordCarriesTheFrame :
    let f : Frame := ⟨0x01, 0x4A, 0x74, 0x00, 0x01⟩
    exec (decodeFrame f) s0 = .next (after s0 (exec (decodeFrame f) s0)) ∧
    (after s0 (exec (decodeFrame f) s0)).trace =
      s0.trace ++ [.log { cause := .malformedBcd, sev := .warning, word := 0x014A740001 }] :=
  ⟨exec_answers _ _, by decide⟩

/-- For each field, an instruction and a state in which it does change. -/
theorem witness_OnlyListedOpcodesWriteEachField :
    let t : Instr → TS → TS := fun i ts => (after s0 (exec i (withTs ts))).ts
    let b : TS := { s0.ts with activeVFO := .B }
    (t (.setfreq ⟨0x01, 0x40, 0x74, 0x00⟩) s0.ts).vfoA ≠ s0.ts.vfoA ∧ (t (.setfreq ⟨0x01, 0x40, 0x74, 0x00⟩) b).vfoB ≠ b.vfoB ∧
    (t (.vfotog zeros) b).activeVFO ≠ b.activeVFO ∧ (t (.setmode 0x0C 0 0 0) b).mode ≠ b.mode ∧
    (t (.ptton zeros) b).ptt ≠ b.ptt ∧ (t (.spliton zeros) b).split ≠ b.split ∧ (t (.claron zeros) b).clar ≠ b.clar ∧
    (t (.locktog zeros) b).lock ≠ b.lock := by decide

/-- Two states that differ in everything but TS and ACK_OFF_POLARITY. -/
theorem witness_OutcomeDependsOnFrameAndTsOnly :
    let s2 : State := { s0 with txq := [0x01], trace := [.notify], params.txqDepth := none, cycles := 7 }
    s0.ts = s2.ts ∧ s0.params.ackOff = s2.params.ackOff ∧
    exec (.splitoff zeros) s0 = .next (after s0 (exec (.splitoff zeros) s0)) ∧
    exec (.splitoff zeros) s2 = .next (after s2 (exec (.splitoff zeros) s2)) :=
  ⟨rfl, rfl, exec_answers _ _, exec_answers _ _⟩

/-- One pair of frames for each of the two forms. -/
theorem witness_IgnoredPayloadChangesNothing :
    let f : Frame := bare 0x10
    let g : Frame := ⟨0xFF, 0xFF, 0xFF, 0xFF, 0x10⟩
    let h : Frame := ⟨0x99, 0x00, 0x00, 0x00, 0x07⟩
    let k : Frame := ⟨0x99, 0x01, 0x02, 0x03, 0x07⟩
    (f.d4 = g.d4 ∧ f.d4 ≠ 0x01 ∧ f.d4 ≠ 0x07) ∧ (h.d4 = k.d4 ∧ h.d4 = 0x07 ∧ h.d0 = k.d0) := by decide

theorem witness_LockGatesNothing :
    (∀ x, Instr.setfreq ⟨0x01, 0x40, 0x74, 0x00⟩ ≠ .locktog x) ∧
    exec (.setfreq ⟨0x01, 0x40, 0x74, 0x00⟩) s0 = .next (after s0 (exec (.setfreq ⟨0x01, 0x40, 0x74, 0x00⟩) s0)) :=
  ⟨fun _ => nofun, exec_answers _ _⟩

/-- An instruction of each of the seven kinds of the last clause. -/
theorem witness_RepeatedFramesUndoOrStay :
    (∃ p, Instr.setfreq zeros = .setfreq p) ∧ (∃ m x1 x2 x3, Instr.setmode 0x02 0 0 0 = .setmode m x1 x2 x3) ∧
    (∃ x, Instr.claron zeros = .claron x) ∧ (∃ x, Instr.claroff zeros = .claroff x) ∧
    (∃ x, Instr.splitoff zeros = .splitoff x) ∧ (∃ x, Instr.ptton zeros = .ptton x) ∧ ∃ x, Instr.pttoff zeros = .pttoff x :=
  ⟨⟨_, rfl⟩, ⟨_, _, _, _, rfl⟩, ⟨_, rfl⟩, ⟨_, rfl⟩, ⟨_, rfl⟩, ⟨_, rfl⟩, ⟨_, rfl⟩⟩

/-- A dispatch that queues five bytes behind three, and for the second clause a BeAck, which moves the held byte. -/
theorem witness_ResponsesLeaveInOrder :
    (StateInv (justRoom [.dispatch]) ∧ (∀ m rest, (justRoom [.dispatch]).sched = m :: rest → isResetMove m = false) ∧
      PerformsDispatch (justRoom [.dispatch]) ∧
      step (justRoom [.dispatch]) = .next (after s0 (step (justRoom [.dispatch]))) ∧
      (outcome (decodeFrame (justRoom []).sr) .requested (justRoom []).ts).resp.length = 5) ∧
    (StateInv (waiting [.beAck]) ∧ (∀ m rest, (waiting [.beAck]).sched = m :: rest → isResetMove m = false) ∧
      ¬PerformsDispatch (waiting [.beAck]) ∧
      step (waiting [.beAck]) = .next (after s0 (step (waiting [.beAck])))) :=
  ⟨⟨by decide, by rintro m rest ⟨⟩; rfl, ⟨by decide, .inr (.inl ⟨[], rfl⟩)⟩, by rfl, by decide⟩,
    by decide, by rintro m rest ⟨⟩; rfl, by (rintro ⟨⟨-, -, h, -⟩, -⟩; cases h), by rfl⟩

theorem witness_EagerHostServesOneFrame :
    let f : Frame := ⟨0x01, 0x40, 0x74, 0x00, 0x01⟩
    let s : State := { s0 with rxLine := f.bytes ++ [0x55], sched := eagerFrame ++ [.rx] }
    StateInv s ∧ Quiescent s ∧ s.halted = false ∧ s.count = 0 ∧ s.rxLine = f.bytes ++ [0x55] ∧
    s.sched = eagerFrame ++ [.rx] := by decide

theorem witness_EagerHostServesEveryFrame :
    let fs : List Frame := [⟨0x01, 0x40, 0x74, 0x00, 0x01⟩, bare 0x03]
    let s : State := { s0 with rxLine := fs.flatMap Frame.bytes ++ [0x55], sched := fs.flatMap (fun _ => eagerFrame) ++ [.rx] }
    StateInv s ∧ Quiescent s ∧ s.halted = false ∧ s.count = 0 ∧ s.rxLine = fs.flatMap Frame.bytes ++ [0x55] ∧
    s.sched = fs.flatMap (fun _ => eagerFrame) ++ [.rx] := by decide

/-- A block that waits for the backend with a response queued, and one with a frame complete. -/
theorem witness_ServedBlockReachesQuiescence :
    let s : State := { waiting (drainMoves 2) with txq := [0x55] }
    let u : State := justRoom (drainMoves 3)
    (StateInv s ∧ s.halted = false ∧ s.sched = drainMoves (s.txq.length + s.pend.length)) ∧
    (StateInv u ∧ u.halted = false ∧ u.sched = drainMoves (u.txq.length + u.pend.length)) := by decide

theorem witness_ClockCycleIsSomeSteps : ({ quiet with rxValid := true, txReady := true, beFail := true }).rst = false := by decide

/-- Everything raised at once, for each of the four clauses: a cycle of a reset that is held, the last one, and the two halts. -/
theorem witness_SimultaneousInputsPriority :
    let p : PortIn := { quiet with rxValid := true, txReady := true, beAck := true, beFail := true, terminate := true }
    ({ p with rst := true, xportErr := true }).rst = true ∧
    (∃ d' q rest, ({ s0 with sched := [.cycle false { quiet with rst := true }] } : State).sched = .cycle d' q :: rest ∧
      q.rst = true) ∧
    (∀ d' q rest, ({ s0 with sched := [.cycle true quiet] } : State).sched = .cycle d' q :: rest → q.rst = false) ∧
    cfgLegal p.cfg = true ∧
    ({ p with xportErr := true }).rst = false ∧ ({ p with xportErr := true }).xportErr = true ∧ s0.halted = false ∧
    p.rst = false ∧ p.xportErr = false ∧ p.terminate = true :=
  ⟨rfl, ⟨_, _, _, rfl, rfl⟩, by rintro d' q rest ⟨⟩; rfl, by decide, rfl, rfl, rfl, rfl, rfl, rfl⟩

/-- With a byte queued `tx_valid` is 1, and a cycle with `terminate` pulses `be_shutdown`. -/
theorem witness_OutputPortsShowTheState :
    (portOut true quiet { s0 with txq := [0x55] }).txValid = true ∧
    clockCycle false { quiet with terminate := true } s0 =
      .next (after s0 (clockCycle false { quiet with terminate := true } s0)) ∧
    (portOut false { quiet with terminate := true } s0).beShutdown = true := ⟨by rfl, by rfl, by rfl⟩

/-- A cycle that raises two log events, so that one is shown and one waits, and a cycle of a reset. -/
theorem witness_LogPortShowsEventsInOrder :
    let p : PortIn := { quiet with beFail := true }
    let s := framed (bare 0x0F) []
    p.rst = false ∧ clockCycle true p s = .next (after s0 (clockCycle true p s)) ∧
    logShown true p s = some { cause := .unsupported, sev := .low, word := 0x000000000F } ∧
    Event.log { cause := .backendFail, sev := .alert, word := 0 } ∈
      (after s0 (clockCycle true p s)).trace.drop s.trace.length ∧
    ({ quiet with rst := true }).rst = true ∧
    clockCycle true { quiet with rst := true } s = .next (after s0 (clockCycle true { quiet with rst := true } s)) :=
  ⟨rfl, by rfl, by decide, by decide, rfl, by rfl⟩

/-- Both ends of the legal range, and the operands just outside it. -/
theorem witness_AssembledSetfreqCarriesItsOperand :
    ((0 : Int) ≤ 0 ∧ (0 : Int) % 10 = 0 ∧ (0 : Int) ≤ 999999990) ∧
    ((0 : Int) ≤ 999999990 ∧ (999999990 : Int) % 10 = 0 ∧ (999999990 : Int) ≤ 999999990) ∧
    ¬((0 : Int) ≤ -10 ∧ (-10 : Int) % 10 = 0 ∧ (-10 : Int) ≤ 999999990) ∧
    ¬((0 : Int) ≤ 1000000000 ∧ (1000000000 : Int) % 10 = 0 ∧ (1000000000 : Int) ≤ 999999990) := by decide

theorem witness_SetfreqBWritesTheInactiveVfo :
    (0 : Int) ≤ 3573000 ∧ (3573000 : Int) % 10 = 0 ∧ (3573000 : Int) ≤ 999999990 := by decide

end Sys2Proof.Tests
end

section
/-! SUPPORT. What an instruction's outcome can be, said once for all instructions (42_dispatch.md R142): which TS it gives, how
long its response is, and what its log event carries. -/

namespace Sys2Proof.Machine

/-! ### Frames and the instructions they decode to -/

/-- Decoding loses nothing of a frame, and what it gives is well formed (30_encoding.md R82, R90). -/
theorem encode_decodeFrame (f : Frame) : encode (decodeFrame f) = f ∧ wellFormed (decodeFrame f) = true := by
  unfold decodeFrame
  rcases h : rom.lookup f.d4 with _ | c
  · exact ⟨rfl, by simp [wellFormed, unlisted_of_rom_lookup h]⟩
  · exact rom_encode _ (rom_lookup_mem h) f.payload

theorem opcodeOf_decodeFrame (f : Frame) : opcodeOf (decodeFrame f) = f.d4 := by
  rw [opcodeOf, (encode_decodeFrame f).1]

theorem instrWord_decodeFrame (f : Frame) : instrWord (decodeFrame f) = frameWord f := by
  rw [instrWord, (encode_decodeFrame f).1]

/-- An opcode that is not listed has no response (42_dispatch.md R141). -/
theorem rlen_unlisted {op : Byte} (h : isListed op = false) : rlen op = 0 := by
  simp [isListed, listedOpcodes, rom] at h
  simp [rlen, opClass, handledOpcodes, stubOpcodes, unsupportedOpcodes, h]

/-! ### The shape of an outcome -/

/-- SETFREQ logs a malformed payload and writes a well-formed one (43_frequency_vfo.md R170). -/
theorem outcome_setfreq_cases (p : Payload) (pol : AckOffPolarity) (ts : TS) :
    ((freqOperand p).bad = true ∧
      outcome (.setfreq p) pol ts = replyLog ts .malformedBcd (instrWord (.setfreq p)) [0x00]) ∨
    ((freqOperand p).bad = false ∧
      outcome (.setfreq p) pol ts = replyNotify (setActiveFreq (freqOperand p).f ts) [0x00]) := by
  rcases h : (freqOperand p).bad with _ | _
  · exact .inr ⟨rfl, outcome_setfreq_good h pol ts⟩
  · exact .inl ⟨rfl, outcome_setfreq_bad h pol ts⟩

/-- SETMODE logs a byte that is no mode code, keeps the current mode, and notifies another one (46_mode.md R200). -/
theorem outcome_setmode_cases (m x1 x2 x3 : Byte) (pol : AckOffPolarity) (ts : TS) :
    outcome (.setmode m x1 x2 x3) pol ts = replyLog ts .badMode (instrWord (.setmode m x1 x2 x3)) [0x00] ∨
    (isMode m = true ∧ outcome (.setmode m x1 x2 x3) pol ts = reply { ts with mode := m } [0x00]) ∨
    (isMode m = true ∧ outcome (.setmode m x1 x2 x3) pol ts = replyNotify { ts with mode := m } [0x00]) := by
  rcases h : isMode m with _ | _
  · exact .inl (outcome_setmode_bad h x1 x2 x3 pol ts)
  · by_cases hm : m = ts.mode
    · exact .inr (.inl ⟨rfl, outcome_setmode_same h hm x1 x2 x3 pol⟩)
    · exact .inr (.inr ⟨rfl, outcome_setmode_new h hm x1 x2 x3 pol⟩)

/-- An outcome is a plain reply, a notification with the acknowledgement 00, or a log event with one of the causes 1 to 4 and
the word of its instruction (42_dispatch.md R143, 60_exceptions.md R238). -/
theorem outcome_kind (i : Instr) (pol : AckOffPolarity) (ts : TS) :
    (∃ ts' resp, outcome i pol ts = reply ts' resp) ∨
    (∃ ts', outcome i pol ts = replyNotify ts' [0x00]) ∨
    ∃ c resp, outcome i pol ts = replyLog ts c (instrWord i) resp ∧ c ≠ .backendFail ∧ c ≠ .transportFail := by
  cases i with
  | setfreq p =>
    rcases outcome_setfreq_cases p pol ts with ⟨-, e⟩ | ⟨-, e⟩
    · exact .inr (.inr ⟨_, _, e, nofun, nofun⟩)
    · exact .inr (.inl ⟨_, e⟩)
  | setmode m x1 x2 x3 =>
    rcases outcome_setmode_cases m x1 x2 x3 pol ts with e | ⟨-, e⟩ | ⟨-, e⟩
    · exact .inr (.inr ⟨_, _, e, nofun, nofun⟩)
    · exact .inl ⟨_, _, e⟩
    · exact .inr (.inl ⟨_, e⟩)
  | vfotog x => exact .inr (.inl ⟨_, rfl⟩)
  | uns09 x | uns0A x | uns0B x | uns0C x | uns0F x | uns8F x | unsA7 x | unsBA x | unsBC x | unsBE x | unsF9 x
  | unknown op x => exact .inr (.inr ⟨_, _, rfl, nofun, nofun⟩)
  | _ => exact .inl ⟨_, _, rfl⟩

/-- The log event of an outcome has one of the causes 1 to 4 and the word of its instruction (60_exceptions.md R238). -/
theorem outcome_ev {i : Instr} {pol : AckOffPolarity} {ts : TS} {c : Cause} {w : FrameWord}
    (h : (outcome i pol ts).ev = some (c, w)) : c ≠ .backendFail ∧ c ≠ .transportFail ∧ w = instrWord i := by
  rcases outcome_kind i pol ts with ⟨_, _, e⟩ | ⟨_, e⟩ | ⟨_, _, e, hb, ht⟩ <;> rw [e] at h <;> cases h
  exact ⟨hb, ht, rfl⟩

/-! ### The response -/

/-- The response of a well-formed instruction has the length its opcode fixes (42_dispatch.md R141). -/
theorem outcome_resp_length {i : Instr} (hi : wellFormed i = true) (pol : AckOffPolarity) (ts : TS) :
    (outcome i pol ts).resp.length = rlen (opcodeOf i) := by
  cases i with
  | setfreq p =>
    rcases outcome_setfreq_cases p pol ts with ⟨-, e⟩ | ⟨-, e⟩ <;> rw [e] <;> rfl
  | setmode m x1 x2 x3 =>
    rcases outcome_setmode_cases m x1 x2 x3 pol ts with e | ⟨-, e⟩ | ⟨-, e⟩ <;> rw [e] <;> rfl
  | unknown op x =>
    have hop : isListed op = false := by simpa [wellFormed] using hi
    exact (rlen_unlisted hop).symm
  | _ => rfl

/-- An outcome that notifies has a response to hold (42_dispatch.md R143). -/
theorem outcome_resp_of_notify {i : Instr} {pol : AckOffPolarity} {ts : TS} (h : (outcome i pol ts).notify = true) :
    (outcome i pol ts).resp = [0x00] := by
  rcases outcome_kind i pol ts with ⟨_, _, e⟩ | ⟨_, e⟩ | ⟨_, _, e, -, -⟩ <;> rw [e] at h ⊢
  · cases h
  · rfl
  · cases h

/-! ### TS -/

/-- Everything an outcome can do to TS: nothing, or the one write of its opcode (10_state.md R32). -/
theorem outcome_ts_cases (i : Instr) (pol : AckOffPolarity) (ts : TS) :
    (outcome i pol ts).ts = ts ∨
    (∃ p, i = .setfreq p ∧ (freqOperand p).bad = false ∧ (outcome i pol ts).ts = setActiveFreq (freqOperand p).f ts) ∨
    (∃ x, i = .vfotog x ∧ (outcome i pol ts).ts = { ts with activeVFO := otherVfo ts.activeVFO }) ∨
    (∃ m x1 x2 x3, i = .setmode m x1 x2 x3 ∧ isMode m = true ∧ (outcome i pol ts).ts = { ts with mode := m }) ∨
    (∃ x b, (i = .ptton x ∨ i = .pttoff x) ∧ (outcome i pol ts).ts = { ts with ptt := b }) ∨
    (∃ x b, (i = .spliton x ∨ i = .splitoff x) ∧ (outcome i pol ts).ts = { ts with split := b }) ∨
    (∃ x b, (i = .claron x ∨ i = .claroff x) ∧ (outcome i pol ts).ts = { ts with clar := b }) ∨
    (∃ x, i = .locktog x ∧ (outcome i pol ts).ts = { ts with lock := !ts.lock }) := by
  cases i with
  | setfreq p =>
    rcases outcome_setfreq_cases p pol ts with ⟨-, e⟩ | ⟨h, e⟩
    · exact .inl (by rw [e]; rfl)
    · exact .inr (.inl ⟨p, rfl, h, by rw [e]; rfl⟩)
  | setmode m x1 x2 x3 =>
    rcases outcome_setmode_cases m x1 x2 x3 pol ts with e | ⟨h, e⟩ | ⟨h, e⟩
    · exact .inl (by rw [e]; rfl)
    · exact .inr (.inr (.inr (.inl ⟨m, x1, x2, x3, rfl, h, by rw [e]; rfl⟩)))
    · exact .inr (.inr (.inr (.inl ⟨m, x1, x2, x3, rfl, h, by rw [e]; rfl⟩)))
  | vfotog x => exact .inr (.inr (.inl ⟨x, rfl, rfl⟩))
  | ptton x => exact .inr (.inr (.inr (.inr (.inl ⟨x, _, .inl rfl, rfl⟩))))
  | pttoff x => exact .inr (.inr (.inr (.inr (.inl ⟨x, _, .inr rfl, rfl⟩))))
  | spliton x => exact .inr (.inr (.inr (.inr (.inr (.inl ⟨x, _, .inl rfl, rfl⟩)))))
  | splitoff x => exact .inr (.inr (.inr (.inr (.inr (.inl ⟨x, _, .inr rfl, rfl⟩)))))
  | claron x => exact .inr (.inr (.inr (.inr (.inr (.inr (.inl ⟨x, _, .inl rfl, rfl⟩))))))
  | claroff x => exact .inr (.inr (.inr (.inr (.inr (.inr (.inl ⟨x, _, .inr rfl, rfl⟩))))))
  | locktog x => exact .inr (.inr (.inr (.inr (.inr (.inr (.inr ⟨x, rfl, rfl⟩))))))
  | _ => exact .inl rfl

theorem setActiveFreq_A {ts : TS} (h : ts.activeVFO = .A) (f : Hz) : setActiveFreq f ts = { ts with vfoA := f } := by
  simp [setActiveFreq, h]

theorem setActiveFreq_B {ts : TS} (h : ts.activeVFO = .B) (f : Hz) : setActiveFreq f ts = { ts with vfoB := f } := by
  simp [setActiveFreq, h]

/-- But for LOCKTOG, `lock` is no input of an outcome but what it hands through (10_state.md R29). -/
theorem outcome_lock {i : Instr} (hi : ∀ x, i ≠ .locktog x) (pol : AckOffPolarity) (ts : TS) (b : Bool) :
    outcome i pol { ts with lock := b } =
      { outcome i pol ts with ts := { (outcome i pol ts).ts with lock := b } } := by
  cases i with
  | locktog x => exact absurd rfl (hi x)
  | setfreq p =>
    rcases h : (unpack p.p0 p.p1 p.p2 p.p3).bad with _ | _
    · rw [outcome_setfreq_good h, outcome_setfreq_good h]
      cases hv : ts.activeVFO <;> simp [replyNotify, setActiveFreq, hv]
    · rw [outcome_setfreq_bad h, outcome_setfreq_bad h]; rfl
  | setmode m x1 x2 x3 =>
    rcases h : isMode m with _ | _
    · rw [outcome_setmode_bad h, outcome_setmode_bad h]; rfl
    · by_cases hm : m = ts.mode
      · rw [outcome_setmode_same h hm, outcome_setmode_same h (ts := { ts with lock := b }) hm]; rfl
      · rw [outcome_setmode_new h hm, outcome_setmode_new h (ts := { ts with lock := b }) hm]; rfl
  | _ => rfl

end Sys2Proof.Machine
end

section
/-! SUPPORT. What a clock cycle does, said once: its transfers and its dispatch as the steps of 10_state.md R50 that they are
(R51), and the one induction over everything that can happen to a state. -/

namespace Sys2Proof.Machine

/-! ### What the host's steps leave as it was -/

/-- XportErr halts the block and adds its events, once (60_exceptions.md R237). -/
theorem xportErr_eq (s : State) :
    xportErr s =
      { s with
        trace := s.trace ++ if s.halted then [] else [.log ⟨.transportFail, .fatal, 0⟩, .shutdown]
        halted := true } := by
  rcases h : s.halted with _ | _
  · simp [xportErr_running h, haltEntry, logEvent, emit, causeSeverity]
  · simp [xportErr_halted h, ← h]

/-- Terminate halts the block and adds its event, once (60_exceptions.md R242). -/
theorem terminate_eq (s : State) :
    terminate s = { s with trace := s.trace ++ if s.halted then [] else [.shutdown], halted := true } := by
  rcases h : s.halted with _ | _
  · simp [terminate_running h, haltEntry, emit]
  · simp [terminate_halted h, ← h]

@[simp] theorem xportErr_ts (s : State) : (xportErr s).ts = s.ts := by rw [xportErr_eq]
@[simp] theorem terminate_ts (s : State) : (terminate s).ts = s.ts := by rw [terminate_eq]
/-- A byte that is taken changes the shift register, the count and `valid` alone (41_frame_assembler.md R121). -/
theorem rxByte_cases (b : Byte) (s : State) :
    rxByte b s = s ∨ ∃ c v, rxByte b s = { s with sr := shiftIn b s.sr, count := c, valid := v } := by
  rcases hr : rxReady s with _ | _
  · exact .inl (rxByte_refused hr b)
  · by_cases hc : s.count = 4
    · exact .inr ⟨_, _, rxByte_fifth hr hc b⟩
    · exact .inr ⟨_, _, rxByte_early hr hc b⟩

/-- BeAck queues the held response and frees the block, or changes nothing (42_dispatch.md R144). -/
theorem beAck_cases (s : State) :
    beAck s = s ∨ beAck s = { s with txq := s.txq ++ s.pend, pend := [], phase := .idle, valid := false } := by
  rcases hr : beReq s with _ | _
  exacts [.inl (beAck_ignored hr), .inr (beAck_enabled hr)]

@[simp] theorem beFail_ts (s : State) : (beFail s).ts = s.ts := by unfold beFail; split <;> rfl
@[simp] theorem beAck_ts (s : State) : (beAck s).ts = s.ts := by rcases beAck_cases s with e | e <;> simp [e]
@[simp] theorem beAck_params (s : State) : (beAck s).params = s.params := by rcases beAck_cases s with e | e <;> simp [e]
@[simp] theorem beAck_halted (s : State) : (beAck s).halted = s.halted := by rcases beAck_cases s with e | e <;> simp [e]
@[simp] theorem beAck_trace (s : State) : (beAck s).trace = s.trace := by rcases beAck_cases s with e | e <;> simp [e]
@[simp] theorem rxByte_ts (b : Byte) (s : State) : (rxByte b s).ts = s.ts := by
  rcases rxByte_cases b s with e | ⟨c, v, e⟩ <;> simp [e]
@[simp] theorem rxByte_params (b : Byte) (s : State) : (rxByte b s).params = s.params := by
  rcases rxByte_cases b s with e | ⟨c, v, e⟩ <;> simp [e]
@[simp] theorem rxByte_phase (b : Byte) (s : State) : (rxByte b s).phase = s.phase := by
  rcases rxByte_cases b s with e | ⟨c, v, e⟩ <;> simp [e]
@[simp] theorem rxByte_halted (b : Byte) (s : State) : (rxByte b s).halted = s.halted := by
  rcases rxByte_cases b s with e | ⟨c, v, e⟩ <;> simp [e]
@[simp] theorem rxByte_trace (b : Byte) (s : State) : (rxByte b s).trace = s.trace := by
  rcases rxByte_cases b s with e | ⟨c, v, e⟩ <;> simp [e]
@[simp] theorem rxOffer_ts (s : State) : (rxOffer s).ts = s.ts := by
  rcases rxOffer_cases s with ⟨e, -⟩ | ⟨b, rest, -, -, e⟩ <;> simp [e]
@[simp] theorem txByte_ts (s : State) : (txByte s).ts = s.ts := by
  rcases txByte_cases s with e | ⟨b, rest, -, -, e⟩ <;> simp [e]
@[simp] theorem txByte_sr (s : State) : (txByte s).sr = s.sr := by
  rcases txByte_cases s with e | ⟨b, rest, -, -, e⟩ <;> simp [e]
@[simp] theorem txByte_valid (s : State) : (txByte s).valid = s.valid := by
  rcases txByte_cases s with e | ⟨b, rest, -, -, e⟩ <;> simp [e]
@[simp] theorem txByte_phase (s : State) : (txByte s).phase = s.phase := by
  rcases txByte_cases s with e | ⟨b, rest, -, -, e⟩ <;> simp [e]
@[simp] theorem txByte_halted (s : State) : (txByte s).halted = s.halted := by
  rcases txByte_cases s with e | ⟨b, rest, -, -, e⟩ <;> simp [e]
@[simp] theorem txByte_params (s : State) : (txByte s).params = s.params := by
  rcases txByte_cases s with e | ⟨b, rest, -, -, e⟩ <;> simp [e]

/-! ### The parts of a clock cycle -/

/-- `xport_err` and `terminate` make what holds of a state hold after them, if each keeps it. -/
theorem preempt_keeps {P : State → Prop} (hx : ∀ a, P a → P (xportErr a)) (ht : ∀ a, P a → P (terminate a)) (p : PortIn)
    {s : State} (h : P s) : P (preempt p s) := by
  unfold preempt
  cases p.xportErr <;> cases p.terminate
  · exact h
  · exact ht _ h
  · exact hx _ h
  · exact ht _ (hx _ h)

/-- `xport_err` and `terminate` change the trace and `halted` alone. -/
theorem preempt_eq (p : PortIn) (s : State) :
    ∃ es, preempt p s = { s with trace := s.trace ++ es, halted := s.halted || p.xportErr || p.terminate } := by
  unfold preempt
  cases p.xportErr <;> cases p.terminate
  · exact ⟨[], by simp⟩
  · exact ⟨_, by simp only [terminate_eq]; simp; rfl⟩
  · exact ⟨_, by simp only [xportErr_eq]; simp; rfl⟩
  · exact ⟨_, by simp only [xportErr_eq, terminate_eq]; simp; rfl⟩

@[simp] theorem preempt_ts (p : PortIn) (s : State) : (preempt p s).ts = s.ts := by
  obtain ⟨es, e⟩ := preempt_eq p s; rw [e]
@[simp] theorem preempt_sr (p : PortIn) (s : State) : (preempt p s).sr = s.sr := by
  obtain ⟨es, e⟩ := preempt_eq p s; rw [e]
@[simp] theorem preempt_params (p : PortIn) (s : State) : (preempt p s).params = s.params := by
  obtain ⟨es, e⟩ := preempt_eq p s; rw [e]
@[simp] theorem preempt_halted_eq (p : PortIn) (s : State) :
    (preempt p s).halted = (s.halted || p.xportErr || p.terminate) := by
  obtain ⟨es, e⟩ := preempt_eq p s; rw [e]

/-- A dispatch is enabled after `xport_err` and `terminate` iff it was before and neither came. -/
theorem dispatchEnabled_preempt (p : PortIn) (s : State) :
    dispatchEnabled (preempt p s) = true ↔
      dispatchEnabled s = true ∧ p.xportErr = false ∧ p.terminate = false := by
  obtain ⟨es, e⟩ := preempt_eq p s
  rw [e]
  simp only [dispatchEnabled_iff, hasRoom_iff, Bool.or_eq_false_iff]
  tauto

theorem dispatchEnabled_halted {s : State} (h : s.halted = true) : dispatchEnabled s = false := by
  simp [dispatchEnabled, h]

/-- TxByte with an empty queue, or of a halted block, changes nothing. -/
theorem txByte_invalid {s : State} (h : txValid s = false) : txByte s = s := by
  rcases txByte_cases s with e | ⟨b, rest, hh, hq, -⟩
  · exact e
  · simp [txValid, hh, hq] at h

@[simp] theorem rxReady_txByte (s : State) : rxReady (txByte s) = rxReady s := by simp [rxReady]
@[simp] theorem beReq_txByte (s : State) : beReq (txByte s) = beReq s := by simp [beReq]
@[simp] theorem beReq_rxByte (b : Byte) (s : State) : beReq (rxByte b s) = beReq s := by simp [beReq]

/-- The transfers of a cycle are TxByte, RxByte and BeAck, one after the other: the test each of them makes in its own state
comes out as it does at the beginning of the cycle (10_state.md R42, R51). -/
theorem transfers_eq (p : PortIn) (s : State) :
    transfers p s =
      let s1 := if p.txReady then txByte s else s
      let s2 := if p.rxValid then rxByte p.rxData s1 else s1
      if p.beAck then beAck s2 else s2 := by
  have htx : (if p.txReady && txValid s then txByte s else s) = if p.txReady then txByte s else s := by
    rcases h : txValid s with _ | _ <;> simp [txByte_invalid, h]
  have hrx (a : State) (ha : rxReady a = rxReady s) :
      (if p.rxValid && rxReady s then rxByte p.rxData a else a) = if p.rxValid then rxByte p.rxData a else a := by
    rcases h : rxReady s with _ | _ <;> simp [rxByte_refused, h, ha]
  have hack (a : State) (ha : beReq a = beReq s) :
      (if p.beAck && beReq s then beAck a else a) = if p.beAck then beAck a else a := by
    rcases h : beReq s with _ | _ <;> simp [beAck_ignored, h, ha]
  unfold transfers
  simp only [htx]
  rw [hrx _ (by split <;> simp), hack _ (by split <;> split <;> simp)]

/-- The transfers of a cycle make what holds of a state hold after them, if each keeps it. -/
theorem transfers_keeps {P : State → Prop} (htx : ∀ a, P a → P (txByte a)) (hrx : ∀ b a, P a → P (rxByte b a))
    (hack : ∀ a, P a → P (beAck a)) (p : PortIn) {s : State} (h : P s) : P (transfers p s) := by
  have h1 : P (if p.txReady then txByte s else s) := by split; exacts [htx _ h, h]
  have h2 := hrx p.rxData _ h1
  rw [transfers_eq]
  dsimp only
  split <;> split
  exacts [hack _ h2, hack _ h1, h2, h1]

@[simp] theorem transfers_ts (p : PortIn) (s : State) : (transfers p s).ts = s.ts :=
  transfers_keeps (P := fun a => a.ts = s.ts) (by simp) (by simp) (by simp) p rfl

/-- While a complete frame can be dispatched, no byte is taken and no BeAck is waited for: of the transfers only TxByte can
happen (60_exceptions.md R241). -/
theorem transfers_of_dispatchEnabled {s : State} (h : dispatchEnabled s = true) (p : PortIn) :
    transfers p s = if p.txReady then txByte s else s := by
  obtain ⟨-, hv, hp, -⟩ := (dispatchEnabled_iff s).1 h
  have hrx : rxReady s = false := by simp [rxReady, hv]
  have hack : beReq s = false := by simp [beReq, hp]
  rw [transfers_eq]
  split <;> simp [rxByte_refused, beAck_ignored, hrx, hack]

theorem transfers_sr_of_dispatchEnabled {s : State} (h : dispatchEnabled s = true) (p : PortIn) :
    (transfers p s).sr = s.sr := by
  rw [transfers_of_dispatchEnabled h]; split <;> simp

/-- TxByte only makes room, so a dispatch that is enabled stays enabled. -/
theorem dispatchEnabled_txByte {s : State} (h : dispatchEnabled s = true) : dispatchEnabled (txByte s) = true := by
  rw [dispatchEnabled_iff, hasRoom_iff] at h ⊢
  obtain ⟨hh, hv, hp, hroom⟩ := h
  refine ⟨by simpa, by simpa, by simpa, fun d hd => ?_⟩
  have := hroom d (by simpa using hd)
  rcases txByte_cases s with e | ⟨b, rest, -, hq, e⟩
  · simpa [e] using this
  · simp only [hq, List.length_cons] at this
    simp only [e]
    omega

theorem dispatchEnabled_transfers {s : State} (h : dispatchEnabled s = true) (p : PortIn) :
    dispatchEnabled (transfers p s) = true := by
  rw [transfers_of_dispatchEnabled h]
  split
  exacts [dispatchEnabled_txByte h, h]

@[simp] theorem transfers_params (p : PortIn) (s : State) : (transfers p s).params = s.params :=
  transfers_keeps (P := fun a => a.params = s.params) (by simp) (by simp) (by simp) p rfl

@[simp] theorem transfers_halted (p : PortIn) (s : State) : (transfers p s).halted = s.halted :=
  transfers_keeps (P := fun a => a.halted = s.halted) (by simp) (by simp) (by simp) p rfl

/-- The dispatch of a cycle is the step Dispatch, where the implementation takes it and it was enabled as the cycle began
(10_state.md R51). -/
theorem cycleDispatch_eq (d : Bool) (p : PortIn) (s : State) :
    cycleDispatch d (preempt p s) (transfers p (preempt p s)) =
      if d && dispatchEnabled s then dispatchStep (transfers p (preempt p s)) else .next (transfers p (preempt p s)) := by
  rcases hq : dispatchEnabled (preempt p s) with _ | _
  · rcases hs : dispatchEnabled s with _ | _
    · simp [cycleDispatch, hq]
    · have hhalt : (preempt p s).halted = true := by
        rw [← Bool.not_eq_false, preempt_halted_eq, Bool.or_assoc, Bool.or_eq_false_iff, Bool.or_eq_false_iff]
        exact fun hne => Bool.eq_false_iff.1 hq ((dispatchEnabled_preempt p s).2 ⟨hs, hne.2⟩)
      have hoff := dispatchEnabled_halted ((transfers_halted p (preempt p s)).trans hhalt)
      simp [cycleDispatch, hq, dispatchStep_waits hoff]
  · have hs := ((dispatchEnabled_preempt p s).1 hq).1
    simp [cycleDispatch, hq, hs, dispatchStep_enabled (dispatchEnabled_transfers hq p)]

/-! ### The one induction over everything that can happen -/

theorem sameBlock_refl (s : State) : SameBlock s s := ⟨rfl, rfl, rfl, rfl, rfl, rfl, rfl, rfl, rfl, rfl⟩

/-- `P` speaks of the block alone, and everything a step can do to the block keeps it. -/
structure KeptByOps (P : State → Prop) : Prop where
  host : ∀ {s t}, SameBlock s t → P s → P t
  rxByte : ∀ b s, P s → P (rxByte b s)
  dispatch : ∀ s, dispatchEnabled s = true → P s → P (commit (outcome (fetchInstr s) s.params.ackOff s.ts) s)
  beAck : ∀ s, P s → P (beAck s)
  txByte : ∀ s, P s → P (txByte s)
  beFail : ∀ s, P s → P (beFail s)
  xportErr : ∀ s, P s → P (xportErr s)
  terminate : ∀ s, P s → P (terminate s)
  reset : ∀ cfg s, cfgLegal cfg = true → P s → P (resetTo cfg s)

section
variable {P : State → Prop} (hP : KeptByOps P) {s t : State}
include hP

theorem dispatchStep_keeps (h : dispatchStep s = .next t) (hs : P s) : P t := by
  rcases dispatchStep_next s with e | ⟨he, e⟩ <;> cases e.symm.trans h
  exacts [hs, hP.dispatch s he hs]

theorem rxOffer_keeps (hs : P s) : P (rxOffer s) := by
  rcases rxOffer_cases s with ⟨e, -⟩ | ⟨b, rest, -, -, e⟩ <;> rw [e]
  exacts [hs, hP.rxByte b _ (hP.host (s := s) (sameBlock_refl s) hs)]

/-- A cycle with `rst = 0` keeps what each of its steps keeps. -/
theorem cycleSteps_keeps {d : Bool} {p : PortIn} (h : cycleSteps d p s = .next t) (hs : P s) : P t := by
  obtain ⟨u, hu, e⟩ := cycleSteps_next d p s
  cases e.symm.trans h
  have hw : P (transfers p (preempt p s)) :=
    transfers_keeps hP.txByte hP.rxByte hP.beAck p (preempt_keeps hP.xportErr hP.terminate p hs)
  have hPu : P u := by
    rw [cycleDispatch_eq] at hu
    split at hu
    · exact dispatchStep_keeps hP hu hw
    · cases hu; exact hw
  unfold cycleBeFail
  split
  exacts [hP.beFail u hPu, hPu]

theorem clockCycle_keeps {d : Bool} {p : PortIn} (h : clockCycle d p s = .next t) (hs : P s) : P t := by
  rcases clockCycle_next h with ⟨-, -, rfl⟩ | ⟨-, -, hc, rfl⟩ | ⟨-, u, hu, rfl⟩
  · exact hP.host (s := s) (sameBlock_refl s) hs
  · exact hP.host (s := resetTo p.cfg s) (sameBlock_refl _) (hP.reset p.cfg s hc hs)
  · exact hP.host (s := u) (sameBlock_refl u) (cycleSteps_keeps hP hu hs)

theorem perform_keeps {m : Move} (h : perform m s = .next t) (hs : P s) : P t := by
  cases m with
  | reset cfg => obtain ⟨hc, rfl⟩ := resetStep_next h; exact hP.reset cfg s hc hs
  | rx => cases h; exact rxOffer_keeps hP hs
  | dispatch => exact dispatchStep_keeps hP h hs
  | beAck => cases h; exact hP.beAck s hs
  | tx => cases h; exact hP.txByte s hs
  | beFail => cases h; exact hP.beFail s hs
  | xportErr => cases h; exact hP.xportErr s hs
  | terminate => cases h; exact hP.terminate s hs
  | cycle d p => exact clockCycle_keeps hP h hs

/-- Every step keeps what its parts keep. -/
theorem step_keeps (h : step s = .next t) (hs : P s) : P t := by
  rcases step_cases s with ⟨-, e⟩ | ⟨m, rest, -, e⟩ <;> rw [e] at h
  · exact dispatchStep_keeps hP h hs
  · exact perform_keeps hP h (hP.host (s := s) (sameBlock_refl s) hs)

/-- Every run keeps what the parts of a step keep. -/
theorem runSteps_keeps {n : Nat} (h : runSteps n s = .next t) (hs : P s) : P t := by
  induction n generalizing s with
  | zero => cases h; exact hs
  | succ n ih =>
    obtain ⟨u, hu, hn⟩ := runSteps_succ_next h
    exact ih hn (step_keeps hP hu hs)

end

end Sys2Proof.Machine
end

section
/-! SUPPORT and PROOFS. The invariant of 10_state.md R30, R34, R40: at reset, after every step, in every reachable state. -/

namespace Sys2Proof.Machine

/-! ### R30: what a dispatch writes to TS is legal -/

/-- A group of two digits is at most 99 (40_codec.md R105). -/
theorem bcdGroup_le_of_good {b : Byte} (h : bcdByteBad b = false) : bcdGroup b ≤ 99 := by
  obtain ⟨hhi, hlo⟩ := (bcdByteBad_eq_false b).1 h
  unfold bcdGroup
  omega

/-- A well-formed FREQ32 operand is a legal frequency (10_state.md R22). -/
theorem freqOperand_legal {p : Payload} (h : (freqOperand p).bad = false) :
    (freqOperand p).f.toNat % 10 = 0 ∧ (freqOperand p).f.toNat ≤ 999999990 := by
  have hbytes : ((bcdByteBad p.p0 = false ∧ bcdByteBad p.p1 = false) ∧ bcdByteBad p.p2 = false) ∧
      bcdByteBad p.p3 = false := by
    simpa only [freqOperand, unpack, Bool.or_eq_false_iff] using h
  obtain ⟨⟨⟨h0, h1⟩, h2⟩, h3⟩ := hbytes
  have g0 := bcdGroup_le_of_good h0
  have g1 := bcdGroup_le_of_good h1
  have g2 := bcdGroup_le_of_good h2
  have g3 := bcdGroup_le_of_good h3
  rw [freqOperand, unpack_f_toNat]
  omega

/-- A dispatch keeps the TS invariants (10_state.md R30). -/
theorem outcome_keeps_tsInv {ts : TS} (h : TsInv ts) (i : Instr) (pol : AckOffPolarity) : TsInv (outcome i pol ts).ts := by
  obtain ⟨hA, hB, hm⟩ := h
  rcases outcome_ts_cases i pol ts with e | ⟨p, -, hp, e⟩ | ⟨x, -, e⟩ | ⟨m, x1, x2, x3, -, hmode, e⟩ |
    ⟨x, b, -, e⟩ | ⟨x, b, -, e⟩ | ⟨x, b, -, e⟩ | ⟨x, -, e⟩ <;> rw [e]
  case inr.inl =>
    have hf := freqOperand_legal hp
    rcases hv : ts.activeVFO with _ | _
    · rw [setActiveFreq_A hv]; exact ⟨hf, hB, hm⟩
    · rw [setActiveFreq_B hv]; exact ⟨hA, hf, hm⟩
  case inr.inr.inr.inl => exact ⟨hA, hB, hmode⟩
  all_goals exact ⟨hA, hB, hm⟩

/-! ### R40: the bound of the response queue -/

theorem withinDepth_iff (p : Params) (n : Nat) : WithinDepth p n ↔ ∀ d, p.txqDepth = some d → n ≤ d := by
  cases h : p.txqDepth <;> simp [WithinDepth, h]

theorem withinDepth_mono {p : Params} {m n : Nat} (h : WithinDepth p n) (hmn : m ≤ n) : WithinDepth p m :=
  (withinDepth_iff p m).2 fun d hd => hmn.trans ((withinDepth_iff p n).1 h d hd)

/-! ### Every operation keeps the invariant -/

/-- A dispatch keeps the control invariants: the room its response takes was tested by 42_dispatch.md R140. -/
theorem dispatch_keeps_stateInv {s : State} (he : dispatchEnabled s = true) (h : StateInv s) :
    StateInv (commit (outcome (fetchInstr s) s.params.ackOff s.ts) s) := by
  obtain ⟨hpar, hts, hc, hv, hw, hi, hd⟩ := h
  obtain ⟨-, hvalid, hidle, hroom⟩ := (dispatchEnabled_iff s).1 he
  have hlen : (outcome (fetchInstr s) s.params.ackOff s.ts).resp.length = rlen s.sr.d4 := by
    rw [fetchInstr, outcome_resp_length (encode_decodeFrame s.sr).2, opcodeOf_decodeFrame]
  have hdepth : WithinDepth s.params (s.txq.length + (outcome (fetchInstr s) s.params.ackOff s.ts).resp.length) := by
    rw [hlen, withinDepth_iff]; exact (hasRoom_iff s _).1 hroom
  refine ⟨by simpa using hpar, by simpa using outcome_keeps_tsInv hts _ _, ?_⟩
  rcases hn : (outcome (fetchInstr s) s.params.ackOff s.ts).notify with _ | _
  · simp only [CtlInv, commit_count, commit_valid, commit_phase, commit_pend, commit_txq, commit_params, hn, hidle, hi hidle]
    exact ⟨hc, nofun, nofun, fun _ => rfl, by simpa using hdepth⟩
  · have hr := outcome_resp_of_notify hn
    simp only [CtlInv, commit_count, commit_valid, commit_phase, commit_pend, commit_txq, commit_params, hn]
    exact ⟨hc, hv, fun _ => ⟨hvalid, by simp [hr]⟩, nofun, hdepth⟩

/-- A received byte keeps the control invariants: the count goes from 4 to 0 with `valid` (41_frame_assembler.md R121). -/
theorem rxByte_keeps_stateInv {s : State} (b : Byte) (h : StateInv s) : StateInv (rxByte b s) := by
  obtain ⟨hpar, hts, hc, hv, hw, hi, hd⟩ := h
  rcases hr : rxReady s with _ | _
  · rw [rxByte_refused hr]; exact ⟨hpar, hts, hc, hv, hw, hi, hd⟩
  · have hnv := ((rxReady_iff s).1 hr).2
    have hnw : s.phase ≠ .waitBe := fun e => Bool.eq_false_iff.1 hnv (hw e).1
    by_cases h4 : s.count = 4
    · rw [rxByte_fifth hr h4]
      exact ⟨hpar, hts, by simp, fun _ => rfl, fun e => absurd e hnw, hi, hd⟩
    · rw [rxByte_early hr h4]
      refine ⟨hpar, hts, ?_, fun e => absurd e (Bool.eq_false_iff.1 hnv), fun e => absurd e hnw, hi, hd⟩
      show (s.count + 1).toNat ≤ 4
      bv_omega

theorem beAck_keeps_stateInv {s : State} (h : StateInv s) : StateInv (beAck s) := by
  obtain ⟨hpar, hts, hc, hv, hw, hi, hd⟩ := h
  rcases hr : beReq s with _ | _
  · rw [beAck_ignored hr]; exact ⟨hpar, hts, hc, hv, hw, hi, hd⟩
  · rw [beAck_enabled hr]
    exact ⟨hpar, hts, hc, nofun, nofun, fun _ => rfl, by simpa using hd⟩

theorem txByte_keeps_stateInv {s : State} (h : StateInv s) : StateInv (txByte s) := by
  obtain ⟨hpar, hts, hc, hv, hw, hi, hd⟩ := h
  rcases txByte_cases s with e | ⟨b, rest, -, hq, e⟩ <;> rw [e]
  · exact ⟨hpar, hts, hc, hv, hw, hi, hd⟩
  · exact ⟨hpar, hts, hc, hv, hw, hi, withinDepth_mono hd (by simp [hq])⟩

/-- TS and control state as Reset leaves them (70_reset_and_hazards.md R261). -/
theorem stateInv_of_resetTs {s : State} {cfg : Cfg} (hp : ParamsLegal s.params) (hc : cfgLegal cfg = true)
    (hts : s.ts = resetTs cfg) (hcount : s.count = 0) (hph : s.phase = .idle) (hpend : s.pend = [])
    (hq : s.txq = []) : StateInv s := by
  obtain ⟨hA, hB, hm⟩ := (cfgLegal_iff cfg).1 hc
  refine ⟨hp, by rw [hts]; exact ⟨hA, hB, hm⟩, by simp [hcount], fun _ => hcount, ?_, fun _ => hpend, ?_⟩
  · simp [hph]
  · simp [withinDepth_iff, hpend, hq]

/-- Everything that can happen to a state keeps the invariant. -/
theorem stateInv_kept : KeptByOps StateInv where
  host := by
    rintro s t ⟨hp, hts, -, hc, hv, hph, hpe, hq, -, -⟩ h
    simpa only [StateInv, CtlInv, hp, hts, hc, hv, hph, hpe, hq] using h
  rxByte b _ := rxByte_keeps_stateInv b
  dispatch _ := dispatch_keeps_stateInv
  beAck _ := beAck_keeps_stateInv
  txByte _ := txByte_keeps_stateInv
  beFail s h := by unfold beFail; split <;> exact h
  xportErr s h := by rw [xportErr_eq]; exact h
  terminate s h := by rw [terminate_eq]; exact h
  reset cfg s hc h := stateInv_of_resetTs (s := resetTo cfg s) h.1 hc rfl rfl rfl rfl rfl

/-- Nothing that can happen to a state changes the parameters. -/
theorem params_kept (p : Params) : KeptByOps (fun s => s.params = p) where
  host h hs := h.1.symm.trans hs
  rxByte b s hs := by simpa using hs
  dispatch s _ hs := by simpa using hs
  beAck s hs := by simpa using hs
  txByte s hs := by simpa using hs
  beFail s hs := by unfold beFail; split <;> exact hs
  xportErr s hs := by rw [xportErr_eq]; exact hs
  terminate s hs := by rw [terminate_eq]; exact hs
  reset cfg s _ hs := hs

theorem stateInv_initial {p : Params} {cfg : Cfg} (hp : ParamsLegal p) (hc : cfgLegal cfg = true) :
    StateInv (State.initial p cfg) :=
  stateInv_of_resetTs (s := State.initial p cfg) hp hc rfl rfl rfl rfl rfl

/-! ### The obligations -/

/-- Settles O36: each operation keeps the invariant, so each step does. -/
theorem everyStepKeepsTheInvariant : Obligations.EveryStepKeepsTheInvariant :=
  fun _ _ hs h => step_keeps stateInv_kept h hs

/-- Settles O35: a legal configuration gives a legal TS, and the rest of the reset state is empty. -/
theorem invariantAtReset : Obligations.InvariantAtReset :=
  ⟨fun _ _ => stateInv_initial, stateInv_initial (by decide) (by decide)⟩

/-- Settles O37: the invariant and the parameters of the reset state are kept along the run. -/
theorem reachableStatesMeetTheInvariants : Obligations.ReachableStatesMeetTheInvariants := by
  intro p cfg line sched n t hp hc hrun
  have h0 : StateInv { State.initial p cfg with rxLine := line, sched := sched } := stateInv_initial hp hc
  have hpar : t.params = p := runSteps_keeps (params_kept p) hrun rfl
  obtain ⟨-, ⟨hA, hB, hm⟩, -, hv, hw, hi, hd⟩ := runSteps_keeps stateInv_kept hrun h0
  refine ⟨⟨hA, hB, hm⟩, hv, hw, hi, fun d hdep => ?_⟩
  have := (withinDepth_iff _ _).1 hd d (by rw [hpar, hdep])
  omega

end Sys2Proof.Machine
end

section
/-! SUPPORT and PROOFS. A clock cycle is the steps its signals say (10_state.md R51): which moves bring the block from one state
to another, whatever surrounds the block, and the cycle as such a list of moves. -/

namespace Sys2Proof.Machine

/-! ### The block and its surroundings -/

/-- The block of `s` in the surroundings of `h`: what the transport holds, the schedule, the log port's queue, the cycle count. -/
def withHost (h s : State) : State :=
  { s with rxLine := h.rxLine, sched := h.sched, logQueue := h.logQueue, cycles := h.cycles }

theorem sameBlock_iff (s t : State) : SameBlock s t ↔ t = withHost t s := by
  cases s; cases t; simp [SameBlock, withHost, eq_comm]

theorem sameBlock_withHost (h s : State) : SameBlock s (withHost h s) :=
  ⟨rfl, rfl, rfl, rfl, rfl, rfl, rfl, rfl, rfl, rfl⟩

/-- `f` works on the block alone and does not look at its surroundings. -/
def BlockOp (f : State → State) : Prop := ∀ h s, f (withHost h s) = withHost h (f s)

theorem blockOp_xportErr : BlockOp xportErr := fun h s => by simp only [xportErr_eq]; rfl
theorem blockOp_terminate : BlockOp terminate := fun h s => by simp only [terminate_eq]; rfl
theorem blockOp_commit (e : Effect) : BlockOp (commit e) := fun h s => by simp only [commit_eq]; rfl

theorem blockOp_beFail : BlockOp beFail := fun h s => by
  cases hh : s.halted <;> simp [beFail, withHost, hh, logEvent, emit]

theorem blockOp_beAck : BlockOp beAck := fun h s => by
  cases hr : beReq s
  · rw [beAck_ignored hr, beAck_ignored (s := withHost h s) hr]
  · rw [beAck_enabled hr, beAck_enabled (s := withHost h s) hr]; rfl

theorem blockOp_rxByte (b : Byte) : BlockOp (rxByte b) := fun h s => by
  cases hr : rxReady s
  · rw [rxByte_refused hr, rxByte_refused (s := withHost h s) hr]
  · by_cases hc : s.count = 4
    · rw [rxByte_fifth hr hc, rxByte_fifth (s := withHost h s) hr hc]; rfl
    · rw [rxByte_early hr hc, rxByte_early (s := withHost h s) hr hc]; rfl

theorem blockOp_txByte : BlockOp txByte := fun h s => by
  cases hh : s.halted <;> cases hq : s.txq <;> simp [txByte, withHost, hh, hq, emit]

/-! ### Moves that lead from one block to another -/

/-- With `ms` next in the schedule and `line` held by the transport, the block of `a` comes to be the block of `b`, and the
transport to hold `line'`, whatever is scheduled after `ms`. -/
def MovesLead (ms : List Move) (a : State) (line : List Byte) (b : State) (line' : List Byte) : Prop :=
  ∀ (s : State) (rest : List Move), SameBlock a s → s.rxLine = line → s.sched = ms ++ rest →
    ∃ t, runSteps ms.length s = .next t ∧ SameBlock b t ∧ t.rxLine = line' ∧ t.sched = rest

theorem movesLead_nil (a : State) (line : List Byte) : MovesLead [] a line a line :=
  fun s _ hs hl hm => ⟨s, rfl, hs, hl, hm⟩

theorem movesLead_append {ms ns : List Move} {a b c : State} {l l' l'' : List Byte} (h1 : MovesLead ms a l b l')
    (h2 : MovesLead ns b l' c l'') : MovesLead (ms ++ ns) a l c l'' := by
  intro s rest hs hl hm
  obtain ⟨t, ht, hbt, hlt, hmt⟩ := h1 s (ns ++ rest) hs hl (by rw [hm, List.append_assoc])
  obtain ⟨u, hu, hcu, hlu, hmu⟩ := h2 t rest hbt hlt hmt
  exact ⟨u, by rw [List.length_append, runSteps_add ht, hu], hcu, hlu, hmu⟩

/-- One move that answers the block of `b` in the surroundings it found, but for what the transport holds. -/
theorem movesLead_one {m : Move} {a b : State} {l l' : List Byte}
    (h : ∀ e, e.rxLine = l → perform m (withHost e a) = .next (withHost { e with rxLine := l' } b)) :
    MovesLead [m] a l b l' := by
  intro s rest hs hl hm
  have hstep : step s = .next (withHost { takeMove rest s with rxLine := l' } b) := by
    rw [step_scheduled hm, ← h (takeMove rest s) hl, (sameBlock_iff a s).1 hs]
    rfl
  exact ⟨_, (runSteps_succ hstep 0).trans rfl, sameBlock_withHost _ _, rfl, rfl⟩

/-- A move that performs an operation of the block alone. -/
theorem movesLead_op {m : Move} {f : State → State} (hm : ∀ s, perform m s = .next (f s)) (hf : BlockOp f) (a : State)
    (l : List Byte) : MovesLead [m] a l (f a) l :=
  movesLead_one fun e he => by rw [hm, hf, ← he]

/-- A move of the block alone that happens in some cycles only. -/
theorem movesLead_opIf {m : Move} {f : State → State} (hm : ∀ s, perform m s = .next (f s)) (hf : BlockOp f) (c : Bool)
    (a : State) (l : List Byte) : MovesLead (if c then [m] else []) a l (if c then f a else a) l := by
  cases c
  · exact movesLead_nil a l
  · exact movesLead_op hm hf a l

/-- The byte the transport holds is taken when the block is ready for it. -/
theorem movesLead_rx {a : State} (hr : rxReady a = true) (b : Byte) : MovesLead [.rx] a [b] (rxByte b a) [] := by
  refine movesLead_one fun e he => ?_
  have hoffer : rxOffer (withHost e a) = rxByte b { withHost e a with rxLine := [] } := by
    have hr' : rxReady (withHost e a) = true := hr
    simp only [rxOffer, show (withHost e a).rxLine = [b] from he, hr', if_true]
  exact congrArg Host.Outcome.next (hoffer.trans (blockOp_rxByte b { e with rxLine := [] } a))

theorem movesLead_rxIf {c : Bool} {a : State} (hr : c = true → rxReady a = true) (b : Byte) :
    MovesLead (if c then [.rx] else []) a [b] (if c then rxByte b a else a) (if c then [] else [b]) := by
  cases c
  · exact movesLead_nil a [b]
  · exact movesLead_rx (hr rfl) b

theorem blockOp_dispatchStep {a b : State} (h : dispatchStep a = .next b) (e : State) :
    dispatchStep (withHost e a) = .next (withHost e b) := by
  rcases he : dispatchEnabled a with _ | _
  · cases (dispatchStep_waits he).symm.trans h
    exact dispatchStep_waits (s := withHost e a) he
  · rw [dispatchStep_enabled he, exec_eq_commit] at h
    cases h
    rw [dispatchStep_enabled (s := withHost e a) he, exec_eq_commit, blockOp_commit]
    rfl

theorem movesLead_dispatch {a b : State} (h : dispatchStep a = .next b) (l : List Byte) : MovesLead [.dispatch] a l b l :=
  movesLead_one fun e he => (blockOp_dispatchStep h e).trans (by rw [← he])

/-! ### The moves of a clock cycle -/

theorem portOut_txValid {p : PortIn} (hr : p.rst = false) (d : Bool) (s : State) :
    (portOut d p s).txValid = txValid (preempt p s) := by simp [portOut, portState, hr]

theorem portOut_rxReady {p : PortIn} (hr : p.rst = false) (d : Bool) (s : State) :
    (portOut d p s).rxReady = rxReady (preempt p s) := by simp [portOut, portState, hr]

theorem movesLead_preempt (p : PortIn) (s : State) (l : List Byte) :
    MovesLead ((if p.xportErr then [.xportErr] else []) ++ (if p.terminate then [.terminate] else [])) s l (preempt p s) l :=
  movesLead_append (movesLead_opIf (fun _ => rfl) blockOp_xportErr _ _ _)
    (movesLead_opIf (fun _ => rfl) blockOp_terminate _ _ _)

/-- `be_req` as the cycle begins is 1 where it is 1 after `xport_err` and `terminate`. -/
theorem beReq_of_preempt {p : PortIn} {s : State} (h : beReq (preempt p s) = true) : beReq s = true := by
  obtain ⟨es, e⟩ := preempt_eq p s
  rw [e, beReq_iff] at h
  obtain ⟨hp, hh⟩ := h
  simp only [Bool.or_eq_false_iff] at hh
  exact (beReq_iff s).2 ⟨hp, hh.1.1⟩

/-- The BeAck of a cycle: in a cycle that halts, `be_req` shows the phase as the cycle begins, and BeAck does nothing. -/
theorem cycle_beAck_eq (p : PortIn) (s a : State) (ha : beReq a = beReq (preempt p s)) :
    (if beReq s && p.beAck then beAck a else a) = if p.beAck && beReq (preempt p s) then beAck a else a := by
  rcases h : beReq (preempt p s) with _ | _
  · simp [beAck_ignored (ha.trans h)]
  · simp [beReq_of_preempt h]

theorem movesLead_transfers (p : PortIn) (s : State) :
    MovesLead
      ((if txValid (preempt p s) && p.txReady then [.tx] else []) ++
        (if p.rxValid && rxReady (preempt p s) then [.rx] else []) ++ (if beReq s && p.beAck then [.beAck] else []))
      (preempt p s) [p.rxData] (transfers p (preempt p s))
      (if p.rxValid && rxReady (preempt p s) then [] else [p.rxData]) := by
  have htx := movesLead_opIf (m := .tx) (fun _ => rfl) blockOp_txByte (txValid (preempt p s) && p.txReady) (preempt p s)
    [p.rxData]
  have hrx := movesLead_rxIf (c := p.rxValid && rxReady (preempt p s))
    (a := if txValid (preempt p s) && p.txReady then txByte (preempt p s) else preempt p s)
    (fun hc => by split <;> simp [(Bool.and_eq_true_iff.1 hc).2]) p.rxData
  refine movesLead_append (movesLead_append htx hrx) ?_
  have hack := movesLead_opIf (m := .beAck) (fun _ => rfl) blockOp_beAck (beReq s && p.beAck)
  rw [transfers, Bool.and_comm p.txReady]
  rw [← cycle_beAck_eq p s _ (by split <;> split <;> simp)]
  exact hack _ _

theorem movesLead_cycleDispatch {d : Bool} {p : PortIn} {s u : State}
    (h : cycleDispatch d (preempt p s) (transfers p (preempt p s)) = .next u) (l : List Byte) :
    MovesLead (if d && dispatchEnabled s then [.dispatch] else []) (transfers p (preempt p s)) l u l := by
  rw [cycleDispatch_eq] at h
  split at h <;> simp only [*, if_true, Bool.false_eq_true, if_false]
  · exact movesLead_dispatch h l
  · cases h; exact movesLead_nil _ l

/-- The steps of a cycle with `rst = 0` are the moves its signals say. -/
theorem movesLead_cycleMoves {d : Bool} {p : PortIn} {s t : State} (hr : p.rst = false) (h : cycleSteps d p s = .next t) :
    MovesLead (cycleMoves d p s) s [p.rxData] t
      (if p.rxValid && (portOut d p s).rxReady then [] else [p.rxData]) := by
  obtain ⟨u, hu, e⟩ := cycleSteps_next d p s
  cases e.symm.trans h
  have hfail (l : List Byte) : MovesLead (if p.beFail then [.beFail] else []) u l (cycleBeFail p u) l :=
    movesLead_opIf (fun _ => rfl) blockOp_beFail _ _ _
  have hall := movesLead_append (movesLead_append (movesLead_append (movesLead_preempt p s [p.rxData])
    (movesLead_transfers p s)) (movesLead_cycleDispatch hu _)) (hfail _)
  rw [cycleMoves, portOut_txValid hr, portOut_rxReady hr, portOut_beReq]
  simpa only [List.append_assoc] using hall

/-- Settles O55: the cycle and the run of its moves come to the same block. -/
theorem clockCycleIsSomeSteps : Obligations.ClockCycleIsSomeSteps := by
  intro d p s hr
  obtain ⟨v, -, hv⟩ := cycleSteps_next d p s
  obtain ⟨u, hu, hsame, hline, -⟩ := movesLead_cycleMoves hr hv
    { s with sched := cycleMoves d p s, rxLine := [p.rxData] } [] (sameBlock_refl s) rfl (List.append_nil _).symm
  exact ⟨endCycle s (cycleBeFail p v), u, by simp [clockCycle, hr, hv], hu, hsame, hline⟩

end Sys2Proof.Machine
end

section
/-! SUPPORT and PROOFS. What may write TS: which step (10_state.md R21), which opcode (R32), and that `lock` gates none (R29). -/

namespace Sys2Proof.Machine

/-! ### The steps that write TS -/

/-- The Dispatch step writes the TS' of its frame's outcome where it is enabled, and nothing else (42_dispatch.md R143). -/
theorem dispatchStep_ts {s t : State} (h : dispatchStep s = .next t) :
    t.ts = if dispatchEnabled s then (outcome (decodeFrame s.sr) s.params.ackOff s.ts).ts else s.ts := by
  rcases he : dispatchEnabled s with _ | _
  · cases (dispatchStep_waits he).symm.trans h; rfl
  · rw [dispatchStep_enabled he, exec_eq_commit] at h
    cases h
    rw [commit_ts]
    rfl

/-- Among the steps of a cycle with `rst = 0` the dispatch alone writes TS, from the frame and the TS the cycle begins with. -/
theorem cycleSteps_ts {d : Bool} {p : PortIn} {s t : State} (h : cycleSteps d p s = .next t) :
    t.ts = if d && dispatchEnabled (preempt p s) then (outcome (decodeFrame s.sr) s.params.ackOff s.ts).ts else s.ts := by
  obtain ⟨u, hu, e⟩ := cycleSteps_next d p s
  cases e.symm.trans h
  have hfail : (cycleBeFail p u).ts = u.ts := by unfold cycleBeFail; split <;> simp
  rw [hfail]
  rcases hc : d && dispatchEnabled (preempt p s) with _ | _
  · rw [cycleDispatch, hc] at hu
    cases hu
    simp
  · rw [cycleDispatch, hc, if_pos rfl, exec_eq_commit] at hu
    cases hu
    have hsr := transfers_sr_of_dispatchEnabled (Bool.and_eq_true_iff.1 hc).2 p
    rw [commit_ts, fetchInstr, hsr, preempt_sr, transfers_params, preempt_params, transfers_ts, preempt_ts, if_pos rfl]

/-- The move performs an enabled Dispatch (42_dispatch.md R140; 60_exceptions.md R241). -/
def dispatchesBy (m : Move) (s : State) : Bool :=
  dispatchEnabled s && match m with
    | .dispatch => true
    | .cycle d p => d && !p.rst && !p.xportErr && !p.terminate
    | _ => false

theorem performsDispatch_idle {s : State} (h : s.sched = []) : PerformsDispatch s ↔ dispatchEnabled s = true := by
  simp [PerformsDispatch, dispatchEnabled_iff, h]

theorem performsDispatch_scheduled {s : State} {m : Move} {rest : List Move} (h : s.sched = m :: rest) :
    PerformsDispatch s ↔ dispatchesBy m s = true := by
  cases m <;> simp [PerformsDispatch, dispatchesBy, dispatchEnabled_iff, h, and_assoc]

theorem dispatchesBy_cycle {d : Bool} {p : PortIn} (hr : p.rst = false) (s : State) :
    dispatchesBy (.cycle d p) s = (d && dispatchEnabled (preempt p s)) := by
  rw [Bool.eq_iff_iff, Bool.and_eq_true, dispatchEnabled_preempt]
  simp [dispatchesBy, hr]
  tauto

/-- A scheduled step that is no reset writes TS exactly as the Dispatch it performs, if any. -/
theorem perform_ts {m : Move} {s t : State} (hm : isResetMove m = false) (h : perform m s = .next t) :
    t.ts = if dispatchesBy m s then (outcome (decodeFrame s.sr) s.params.ackOff s.ts).ts else s.ts := by
  cases m with
  | reset cfg => cases hm
  | dispatch => simpa [dispatchesBy] using dispatchStep_ts h
  | cycle d p =>
    have hr : p.rst = false := hm
    rcases clockCycle_next h with ⟨hr', -⟩ | ⟨hr', -⟩ | ⟨-, u, hu, rfl⟩
    · rw [hr] at hr'; cases hr'
    · rw [hr] at hr'; cases hr'
    · rw [dispatchesBy_cycle hr]; exact cycleSteps_ts (t := u) hu
  | rx | beAck | tx | beFail | xportErr | terminate => cases h; simp [dispatchesBy]

theorem isResetMove_of_dispatchesBy {m : Move} {s : State} (h : dispatchesBy m s = true) : isResetMove m = false := by
  cases m with
  | reset cfg => simp [dispatchesBy] at h
  | cycle d p =>
    simp only [dispatchesBy, Bool.and_eq_true, Bool.not_eq_true'] at h
    exact h.2.1.1.2
  | _ => rfl

/-- Settles O39: with nothing scheduled by the Dispatch step, else by the scheduled one. -/
theorem onlyDispatchOrResetWritesTs : Obligations.OnlyDispatchOrResetWritesTs := by
  intro s t h
  rcases step_cases s with ⟨hs, e⟩ | ⟨m, rest, hs, e⟩ <;> rw [e] at h
  · have hts := dispatchStep_ts h
    rw [performsDispatch_idle hs]
    exact ⟨fun hd => by rwa [if_pos hd] at hts, fun hd _ => by rwa [if_neg hd] at hts⟩
  · have hts (hm : isResetMove m = false) :
        t.ts = if dispatchesBy m s then (outcome (decodeFrame s.sr) s.params.ackOff s.ts).ts else s.ts :=
      perform_ts (s := takeMove rest s) hm h
    rw [performsDispatch_scheduled hs]
    refine ⟨fun hd => ?_, fun hd hm => ?_⟩
    · rw [hts (isResetMove_of_dispatchesBy hd), if_pos hd]
    · rw [hts (hm m rest hs), if_neg hd]

/-! ### The opcodes that write TS -/

/-- Settles O46: the one write of the instruction's opcode, if any; the rest is what a commit leaves. -/
theorem onlyListedOpcodesWriteEachField : Obligations.OnlyListedOpcodesWriteEachField := by
  intro i s t h
  rw [exec_eq_commit] at h
  cases h
  rcases outcome_ts_cases i s.params.ackOff s.ts with e | ⟨p, rfl, -, e⟩ | ⟨x, rfl, e⟩ | ⟨m, x1, x2, x3, rfl, -, e⟩ |
    ⟨x, b, hi, e⟩ | ⟨x, b, hi, e⟩ | ⟨x, b, hi, e⟩ | ⟨x, rfl, e⟩
  · simp [e]
  · rcases hv : s.ts.activeVFO with _ | _
    · simp [e, setActiveFreq_A hv, hv]
    · simp [e, setActiveFreq_B hv, hv]
  · simp [e]
  · simp [e]
  · simpa [e] using fun _ => ⟨x, hi⟩
  · simpa [e] using fun _ => ⟨x, hi⟩
  · simpa [e] using fun _ => ⟨x, hi⟩
  · simp [e]

/-! ### Lock -/

/-- Every outcome but LOCKTOG's hands `lock` through. -/
theorem outcome_ts_lock {i : Instr} (hi : ∀ x, i ≠ .locktog x) (pol : AckOffPolarity) (ts : TS) :
    (outcome i pol ts).ts.lock = ts.lock := by
  rcases outcome_ts_cases i pol ts with e | ⟨p, -, -, e⟩ | ⟨x, -, e⟩ | ⟨m, x1, x2, x3, -, -, e⟩ |
    ⟨x, b, -, e⟩ | ⟨x, b, -, e⟩ | ⟨x, b, -, e⟩ | ⟨x, h, -⟩
  case inr.inr.inr.inr.inr.inr.inr => exact absurd h (hi x)
  all_goals simp [e]

/-- Settles O49: the outcome from the other value of `lock` is the same but for `lock`, and so is the state it is committed to. -/
theorem lockGatesNothing : Obligations.LockGatesNothing := by
  intro i s t b hi h
  rw [exec_eq_commit] at h ⊢
  cases h
  refine ⟨by rw [commit_ts, outcome_ts_lock hi], ?_⟩
  dsimp only
  rw [outcome_lock hi, commit_eq, commit_eq]
  rfl

end Sys2Proof.Machine
end

section
/-! SUPPORT and PROOFS. The log port (10_state.md R46): which records a clock cycle raises, and in what order they are shown. -/

namespace Sys2Proof.Machine

/-- The record has the severity of its cause, and the word of frame `f` or 0 as R238 says (60_exceptions.md R231, R238). -/
def RecordFits (f : Frame) (r : LogRecord) : Prop :=
  r.sev = causeSeverity r.cause ∧
  r.word = if r.cause = .backendFail ∨ r.cause = .transportFail then 0 else frameWord f

/-- From `s` to `t` the trace grows, and every log record it grows by fits frame `f`. -/
def GrowsFitting (f : Frame) (s t : State) : Prop :=
  ∃ es, t.trace = s.trace ++ es ∧ ∀ r, Event.log r ∈ es → RecordFits f r

theorem growsFitting_refl (f : Frame) (s : State) : GrowsFitting f s s := ⟨[], by simp, by simp⟩

theorem GrowsFitting.add {f : Frame} {s t u : State} (h : GrowsFitting f s t) {es : List Event} (hu : u.trace = t.trace ++ es)
    (hes : ∀ r, Event.log r ∈ es → RecordFits f r) : GrowsFitting f s u := by
  obtain ⟨es', ht, hes'⟩ := h
  refine ⟨es' ++ es, by rw [hu, ht, List.append_assoc], fun r hr => ?_⟩
  rcases List.mem_append.1 hr with hr | hr
  exacts [hes' r hr, hes r hr]

theorem GrowsFitting.same {f : Frame} {s t u : State} (h : GrowsFitting f s t) (hu : u.trace = t.trace) :
    GrowsFitting f s u := h.add (es := []) (by simp [hu]) (by simp)

/-! ### What each part of a cycle raises -/

theorem GrowsFitting.xportErr {f : Frame} {s t : State} (h : GrowsFitting f s t) : GrowsFitting f s (xportErr t) := by
  rw [xportErr_eq]
  refine h.add rfl fun r hr => ?_
  split at hr
  · cases hr
  · obtain rfl : r = ⟨.transportFail, .fatal, 0⟩ := by simpa using hr
    exact ⟨rfl, rfl⟩

theorem GrowsFitting.terminate {f : Frame} {s t : State} (h : GrowsFitting f s t) : GrowsFitting f s (terminate t) := by
  rw [terminate_eq]
  exact h.add rfl fun r hr => by split at hr <;> simp at hr

theorem GrowsFitting.beFail {f : Frame} {s t : State} (h : GrowsFitting f s t) : GrowsFitting f s (beFail t) := by
  rcases hh : t.halted with _ | _
  · rw [beFail_running hh]
    refine h.add rfl fun r hr => ?_
    obtain rfl : r = ⟨.backendFail, .alert, 0⟩ := by simpa [causeSeverity] using hr
    exact ⟨rfl, rfl⟩
  · rwa [beFail_halted hh]

theorem GrowsFitting.txByte {f : Frame} {s t : State} (h : GrowsFitting f s t) : GrowsFitting f s (txByte t) := by
  rcases txByte_cases t with e | ⟨b, rest, -, -, e⟩ <;> rw [e]
  · exact h
  · exact h.add (es := [.tx b]) rfl (by simp)

theorem GrowsFitting.rxByte {f : Frame} {s t : State} (b : Byte) (h : GrowsFitting f s t) : GrowsFitting f s (rxByte b t) :=
  h.same (rxByte_trace b t)

theorem GrowsFitting.beAck {f : Frame} {s t : State} (h : GrowsFitting f s t) : GrowsFitting f s (beAck t) :=
  h.same (beAck_trace t)

/-- The log record of a frame's outcome fits the frame. -/
theorem recordFits_of_outcome {f : Frame} {pol : AckOffPolarity} {ts : TS} {r : LogRecord}
    (h : Event.log r ∈ effectEvents (outcome (decodeFrame f) pol ts)) : RecordFits f r := by
  rcases hev : (outcome (decodeFrame f) pol ts).ev with _ | ⟨c, w⟩
  · simp [effectEvents, hev] at h
  · obtain ⟨hb, ht, hw⟩ := outcome_ev hev
    obtain rfl : r = ⟨c, causeSeverity c, w⟩ := by simpa [effectEvents, hev] using h
    exact ⟨rfl, by simp [hb, ht, hw, instrWord_decodeFrame]⟩

/-- Every record a cycle raises fits the frame that stands in the shift register as the cycle begins. -/
theorem cycleSteps_growsFitting {d : Bool} {p : PortIn} {s t : State} (h : cycleSteps d p s = .next t) :
    GrowsFitting s.sr s t := by
  obtain ⟨u, hu, e⟩ := cycleSteps_next d p s
  cases e.symm.trans h
  have hw : GrowsFitting s.sr s (transfers p (preempt p s)) :=
    transfers_keeps (fun _ => .txByte) (fun b _ => .rxByte b) (fun _ => .beAck) p
      (preempt_keeps (fun _ => .xportErr) (fun _ => .terminate) p (growsFitting_refl s.sr s))
  have hgrows : GrowsFitting s.sr s u := by
    rcases cycleDispatch_next d (preempt p s) (transfers p (preempt p s)) with e | ⟨-, hq, e⟩ <;> cases e.symm.trans hu
    · exact hw
    · refine hw.add (commit_trace _ _) fun r hr => ?_
      rw [fetchInstr, transfers_sr_of_dispatchEnabled hq p, preempt_sr] at hr
      exact recordFits_of_outcome hr
  unfold cycleBeFail
  split
  exacts [hgrows.beFail, hgrows]

/-! ### The obligation -/

theorem causeRow_eq (c : Cause) : causeRow c = (causeCode c, severityCode (causeSeverity c)) := by cases c <;> rfl

theorem severityRow_eq (v : Severity) : severityRow v = severityCode v := by cases v <;> rfl

/-- A cycle with `rst = 1` emits nothing and leaves the queue of the log port (60_exceptions.md R241 item 1). -/
theorem clockCycle_rst_logs {d : Bool} {p : PortIn} {s t : State} (hr : p.rst = true) (h : clockCycle d p s = .next t) :
    t.trace = s.trace ∧ t.logQueue = s.logQueue := by
  rcases clockCycle_next h with ⟨-, -, rfl⟩ | ⟨-, -, -, rfl⟩ | ⟨hr', -⟩
  · exact ⟨rfl, rfl⟩
  · exact ⟨rfl, rfl⟩
  · rw [hr] at hr'; cases hr'

/-- Every record a clock cycle raises fits the frame that stands in the shift register as the cycle begins. -/
theorem clockCycle_recordFits {d : Bool} {p : PortIn} {s t : State} (h : clockCycle d p s = .next t) {r : LogRecord}
    (hmem : Event.log r ∈ t.trace.drop s.trace.length) : RecordFits s.sr r := by
  rcases clockCycle_next h with ⟨-, -, rfl⟩ | ⟨-, -, -, rfl⟩ | ⟨-, u, hu, rfl⟩
  · simp at hmem
  · simp at hmem
  · obtain ⟨es, htr, hes⟩ := cycleSteps_growsFitting hu
    have htr' : (endCycle s u).trace = s.trace ++ es := htr
    rw [htr', List.drop_left] at hmem
    exact hes r hmem

/-- Settles O58: the cycle's steps say what is shown and what goes on waiting; each record it raises fits its frame. -/
theorem logPortShowsEventsInOrder : Obligations.LogPortShowsEventsInOrder := by
  intro d p s t h
  refine ⟨fun hr => ?_, fun hr => ⟨by simp [logShown, hr], (clockCycle_rst_logs hr h).2⟩, fun r hmem => ?_, rfl,
    fun r hs => ?_⟩
  · rcases clockCycle_next h with ⟨hr', -⟩ | ⟨hr', -⟩ | ⟨-, u, hu, rfl⟩
    · rw [hr] at hr'; cases hr'
    · rw [hr] at hr'; cases hr'
    · exact ⟨logShown_of_next (u := u) hr hu, rfl⟩
  · obtain ⟨hsev, hword⟩ := clockCycle_recordFits h hmem
    exact ⟨by rw [severityRow_eq, causeRow_eq, hsev], hword⟩
  · simp [portOut, hs, causeRow_eq, severityRow_eq]

end Sys2Proof.Machine
end

section
/-! SUPPORT and PROOFS. The wait for the backend (20_memory.md R73, R74): what of a waiting block only a reset changes. -/

namespace Sys2Proof.Machine

/-- A clock cycle with `rst = 0` is its steps, followed by its end. -/
theorem clockCycle_running {d : Bool} {p : PortIn} {s t : State} (hr : p.rst = false) (h : clockCycle d p s = .next t) :
    ∃ u, cycleSteps d p s = .next u ∧ t = endCycle s u := by
  rcases clockCycle_next h with ⟨hr', -⟩ | ⟨hr', -⟩ | ⟨-, hu⟩
  · rw [hr] at hr'; cases hr'
  · rw [hr] at hr'; cases hr'
  · exact hu

@[simp] theorem preempt_valid (p : PortIn) (s : State) : (preempt p s).valid = s.valid := by
  obtain ⟨es, e⟩ := preempt_eq p s; rw [e]

/-- While a frame is complete no byte is taken: of the transfers of a cycle only TxByte and BeAck can happen
(41_frame_assembler.md R120, 60_exceptions.md R241). -/
theorem transfers_of_valid {s : State} (h : s.valid = true) (p : PortIn) :
    transfers p s =
      let s1 := if p.txReady then txByte s else s
      if p.beAck then beAck s1 else s1 := by
  have hrx : rxReady (if p.txReady then txByte s else s) = false := by split <;> simp [rxReady, h]
  rw [transfers_eq]
  simp only [rxByte_refused hrx, ite_self]

/-- From `s` to `t` TS, the frame and the count are kept, and while `t` waits for the backend the response it holds too. -/
def KeepsFrame (s t : State) : Prop :=
  t.ts = s.ts ∧ t.sr = s.sr ∧ t.count = s.count ∧ (t.phase = .waitBe → t.valid = true ∧ t.pend = s.pend)

section
variable {s t : State}

theorem keepsFrame_refl (h : s.valid = true) : KeepsFrame s s := ⟨rfl, rfl, rfl, fun _ => ⟨h, rfl⟩⟩

theorem KeepsFrame.txByte (h : KeepsFrame s t) : KeepsFrame s (txByte t) := by
  rcases txByte_cases t with e | ⟨b, rest, -, -, e⟩ <;> rw [e] <;> exact h

/-- BeAck ends the wait and so leaves nothing to say of what is held (42_dispatch.md R144). -/
theorem KeepsFrame.beAck (h : KeepsFrame s t) : KeepsFrame s (beAck t) := by
  obtain ⟨hts, hsr, hcount, -⟩ := id h
  rcases beAck_cases t with e | e <;> rw [e]
  exacts [h, ⟨hts, hsr, hcount, nofun⟩]

theorem KeepsFrame.beFail (h : KeepsFrame s t) : KeepsFrame s (beFail t) := by
  unfold Machine.beFail; split <;> exact h

theorem KeepsFrame.xportErr (h : KeepsFrame s t) : KeepsFrame s (xportErr t) := by
  rw [xportErr_eq]; exact h

theorem KeepsFrame.terminate (h : KeepsFrame s t) : KeepsFrame s (terminate t) := by
  rw [terminate_eq]; exact h

/-! ### A block that waits dispatches nothing and takes no byte -/

theorem dispatchEnabled_of_waitBe (hw : s.phase = .waitBe) : dispatchEnabled s = false := by
  simp [dispatchEnabled, hw]

theorem dispatchStep_of_waitBe (hw : s.phase = .waitBe) (h : dispatchStep s = .next t) : t = s := by
  cases (dispatchStep_waits (dispatchEnabled_of_waitBe hw)).symm.trans h; rfl

/-- The steps of a cycle with `rst = 0` keep the frame of a block that waits. -/
theorem cycleSteps_keepsFrame {d : Bool} {p : PortIn} (hw : s.phase = .waitBe) (hv : s.valid = true)
    (h : cycleSteps d p s = .next t) : KeepsFrame s t := by
  obtain ⟨u, hu, e⟩ := cycleSteps_next d p s
  cases e.symm.trans h
  have hpre : KeepsFrame s (preempt p s) :=
    preempt_keeps (fun _ => .xportErr) (fun _ => .terminate) p (keepsFrame_refl hv)
  have htransfers : KeepsFrame s (transfers p (preempt p s)) := by
    rw [transfers_of_valid (by simpa using hv)]
    dsimp only
    split <;> split
    exacts [hpre.txByte.beAck, hpre.beAck, hpre.txByte, hpre]
  rw [cycleDispatch_eq, dispatchEnabled_of_waitBe hw, Bool.and_false] at hu
  cases hu
  unfold cycleBeFail
  split
  exacts [htransfers.beFail, htransfers]

/-- Every scheduled step but reset keeps the frame of a block that waits. -/
theorem perform_keepsFrame {m : Move} (hm : isResetMove m = false) (hw : s.phase = .waitBe) (hv : s.valid = true)
    (h : perform m s = .next t) : KeepsFrame s t := by
  have hself := keepsFrame_refl hv
  cases m with
  | reset cfg => cases hm
  | rx =>
    cases h
    rcases rxOffer_cases s with ⟨e, -⟩ | ⟨b, rest, -, hr, -⟩
    · rw [e]; exact hself
    · simp [rxReady, hv] at hr
  | dispatch => rw [dispatchStep_of_waitBe hw h]; exact hself
  | beAck => cases h; exact hself.beAck
  | tx => cases h; exact hself.txByte
  | beFail => cases h; exact hself.beFail
  | xportErr => cases h; exact hself.xportErr
  | terminate => cases h; exact hself.terminate
  | cycle d p =>
    obtain ⟨u, hu, rfl⟩ := clockCycle_running hm h
    exact cycleSteps_keepsFrame (t := u) hw hv hu

end

/-- Settles O40: with nothing scheduled a block that waits does nothing, and every scheduled step but reset keeps its frame. -/
theorem waitForBackendFreezesTs : Obligations.WaitForBackendFreezesTs := by
  intro s t hw hv hm h
  rcases step_cases s with ⟨-, e⟩ | ⟨m, rest, hs, e⟩ <;> rw [e] at h
  · rw [dispatchStep_of_waitBe hw h]; exact keepsFrame_refl hv
  · exact perform_keepsFrame (s := takeMove rest s) (hm m rest hs) hw hv h

end Sys2Proof.Machine
end

section
/-! SUPPORT and PROOFS. The response stream (20_memory.md R70, 42_dispatch.md R150): bytes sent, then queued, then held. A
dispatch adds to its end, and every other step only moves bytes along it. -/

namespace Sys2Proof.Machine

/-! ### Each step's effect on the stream -/

/-- An outcome's own events send nothing: its bytes go to the queue or are held (42_dispatch.md R143). -/
@[simp] theorem sentBytes_effectEvents (e : Effect) : sentBytes (effectEvents e) = [] := by
  rcases e with ⟨ts, notify, _ | ⟨c, w⟩, resp⟩ <;> cases notify <;> rfl

/-- A dispatch adds its response at the end of the stream, held or queued: nothing is held before it. -/
theorem responseStream_commit {s : State} (hp : s.pend = []) (e : Effect) :
    responseStream (commit e s) = responseStream s ++ e.resp := by
  rcases hn : e.notify with _ | _ <;> simp [responseStream, sentBytes_append, hn, hp]

/-- TxByte moves the head of the queue to what is sent. -/
@[simp] theorem responseStream_txByte (s : State) : responseStream (txByte s) = responseStream s := by
  rcases txByte_cases s with e | ⟨b, rest, -, hq, e⟩ <;> rw [e]
  simp [responseStream, sentBytes_append, hq]

/-- BeAck moves what is held to the end of the queue. -/
@[simp] theorem responseStream_beAck (s : State) : responseStream (beAck s) = responseStream s := by
  rcases beAck_cases s with e | e <;> rw [e]
  simp [responseStream]

@[simp] theorem responseStream_rxByte (b : Byte) (s : State) : responseStream (rxByte b s) = responseStream s := by
  rcases rxByte_cases b s with e | ⟨c, v, e⟩
  · rw [e]
  · rw [e]; rfl

@[simp] theorem responseStream_rxOffer (s : State) : responseStream (rxOffer s) = responseStream s := by
  rcases rxOffer_cases s with ⟨e, -⟩ | ⟨b, rest, -, -, e⟩
  · rw [e]
  · rw [e]; exact responseStream_rxByte b _

@[simp] theorem responseStream_beFail (s : State) : responseStream (beFail s) = responseStream s := by
  unfold beFail
  split <;> simp [responseStream, sentBytes_append]

@[simp] theorem responseStream_xportErr (s : State) : responseStream (xportErr s) = responseStream s := by
  rw [xportErr_eq]
  cases s.halted <;> simp [responseStream, sentBytes_append]

@[simp] theorem responseStream_terminate (s : State) : responseStream (terminate s) = responseStream s := by
  rw [terminate_eq]
  cases s.halted <;> simp [responseStream, sentBytes_append]

@[simp] theorem responseStream_preempt (p : PortIn) (s : State) : responseStream (preempt p s) = responseStream s :=
  preempt_keeps (P := fun a => responseStream a = responseStream s) (by simp) (by simp) p rfl

@[simp] theorem responseStream_transfers (p : PortIn) (s : State) : responseStream (transfers p s) = responseStream s :=
  transfers_keeps (P := fun a => responseStream a = responseStream s) (by simp) (by simp) (by simp) p rfl

@[simp] theorem responseStream_cycleBeFail (p : PortIn) (s : State) :
    responseStream (cycleBeFail p s) = responseStream s := by
  unfold cycleBeFail; split <;> simp

/-! ### Steps that may dispatch -/

/-- A dispatch that is enabled finds nothing held (10_state.md R40). -/
theorem pend_of_dispatchEnabled {s : State} (hinv : StateInv s) (he : dispatchEnabled s = true) : s.pend = [] := by
  obtain ⟨-, -, -, -, -, hidle, -⟩ := hinv
  obtain ⟨-, -, hphase, -⟩ := (dispatchEnabled_iff s).1 he
  exact hidle hphase

/-- The transfers of a cycle change nothing that the outcome of its dispatch depends on (60_exceptions.md R241). -/
theorem outcome_transfers {p : PortIn} {s : State} (h : dispatchEnabled (preempt p s) = true) :
    outcome (fetchInstr (transfers p (preempt p s))) (transfers p (preempt p s)).params.ackOff (transfers p (preempt p s)).ts =
      outcome (decodeFrame s.sr) s.params.ackOff s.ts := by
  simp [fetchInstr, transfers_sr_of_dispatchEnabled h]

/-- The Dispatch step adds the response of its frame where it is enabled, and nothing else. -/
theorem dispatchStep_responseStream {s t : State} (hinv : StateInv s) (h : dispatchStep s = .next t) :
    responseStream t = responseStream s ++
      if dispatchEnabled s then (outcome (decodeFrame s.sr) s.params.ackOff s.ts).resp else [] := by
  rcases he : dispatchEnabled s with _ | _
  · cases (dispatchStep_waits he).symm.trans h; simp
  · rw [dispatchStep_enabled he, exec_eq_commit] at h
    cases h
    exact responseStream_commit (pend_of_dispatchEnabled hinv he) _

/-- Among the steps of a cycle with `rst = 0` the dispatch alone adds to the stream. -/
theorem cycleSteps_responseStream {d : Bool} {p : PortIn} {s t : State} (hinv : StateInv s)
    (h : cycleSteps d p s = .next t) :
    responseStream t = responseStream s ++
      if d && dispatchEnabled (preempt p s) then (outcome (decodeFrame s.sr) s.params.ackOff s.ts).resp else [] := by
  obtain ⟨u, hu, e⟩ := cycleSteps_next d p s
  cases e.symm.trans h
  rw [responseStream_cycleBeFail]
  rcases hc : d && dispatchEnabled (preempt p s) with _ | _
  · rw [cycleDispatch, hc] at hu
    cases hu
    simp
  · rw [cycleDispatch, hc, if_pos rfl, exec_eq_commit] at hu
    cases hu
    have he := (Bool.and_eq_true_iff.1 hc).2
    have hinv' : StateInv (transfers p (preempt p s)) :=
      transfers_keeps stateInv_kept.txByte stateInv_kept.rxByte stateInv_kept.beAck p
        (preempt_keeps stateInv_kept.xportErr stateInv_kept.terminate p hinv)
    have hpend := pend_of_dispatchEnabled hinv' (dispatchEnabled_transfers he p)
    rw [responseStream_commit hpend, outcome_transfers he, responseStream_transfers, responseStream_preempt, if_pos rfl]

/-- A scheduled step that is no reset adds to the stream exactly the response of the Dispatch it performs, if any. -/
theorem perform_responseStream {m : Move} {s t : State} (hm : isResetMove m = false) (hinv : StateInv s)
    (h : perform m s = .next t) :
    responseStream t = responseStream s ++
      if dispatchesBy m s then (outcome (decodeFrame s.sr) s.params.ackOff s.ts).resp else [] := by
  cases m with
  | reset cfg => cases hm
  | dispatch => simpa [dispatchesBy] using dispatchStep_responseStream hinv h
  | cycle d p =>
    obtain ⟨u, hu, rfl⟩ := clockCycle_running hm h
    rw [dispatchesBy_cycle hm]
    exact cycleSteps_responseStream (t := u) hinv hu
  | rx | beAck | tx | beFail | xportErr | terminate => cases h; simp [dispatchesBy]

/-- Settles O51: with nothing scheduled by the Dispatch step, else by the scheduled one. -/
theorem responsesLeaveInOrder : Obligations.ResponsesLeaveInOrder := by
  intro s t hinv hm h
  obtain ⟨c, hc, hstream⟩ : ∃ c : Bool, (PerformsDispatch s ↔ c = true) ∧
      responseStream t = responseStream s ++
        if c then (outcome (decodeFrame s.sr) s.params.ackOff s.ts).resp else [] := by
    rcases step_cases s with ⟨hs, e⟩ | ⟨m, rest, hs, e⟩ <;> rw [e] at h
    · exact ⟨_, performsDispatch_idle hs, dispatchStep_responseStream hinv h⟩
    · exact ⟨_, performsDispatch_scheduled hs, perform_responseStream (s := takeMove rest s) (hm m rest hs) hinv h⟩
  rw [hc]
  exact ⟨fun hd => by rwa [if_pos hd] at hstream, fun hd => by rwa [if_neg hd, List.append_nil] at hstream⟩

end Sys2Proof.Machine
end

section
/-! SUPPORT and PROOFS. What an eager host brings about (95_test_vectors.md, 42_dispatch.md R155): the five bytes of a frame, its
dispatch with the backend's acknowledgement, and the emptying of the response queue, each as one run. -/

namespace Sys2Proof.Machine

/-- A run begins with the scheduled step. -/
theorem runSteps_scheduled {s t : State} {m : Move} {rest : List Move} (hs : s.sched = m :: rest)
    (h : perform m (takeMove rest s) = .next t) (n : Nat) : runSteps (n + 1) s = runSteps n t :=
  runSteps_succ ((step_scheduled hs).trans h) n

/-! ### The bytes of a frame -/

/-- An offered byte is taken when the block is ready for it (41_frame_assembler.md R120). -/
theorem rxOffer_taken {s : State} {b : Byte} {line : List Byte} (hr : rxReady s = true) (hl : s.rxLine = b :: line) :
    rxOffer s = rxByte b { s with rxLine := line } := by
  simp [rxOffer, hl, hr]

/-- A run begins with one of the first four bytes of a frame (41_frame_assembler.md R121). -/
theorem runSteps_rx_early {s : State} {n : Nat} {b : Byte} {line : List Byte} {rest : List Move}
    (hr : rxReady s = true) (hc : s.count ≠ 4) (hl : s.rxLine = b :: line) (hs : s.sched = .rx :: rest) :
    runSteps (n + 1) s =
      runSteps n { s with sr := shiftIn b s.sr, count := s.count + 1, rxLine := line, sched := rest } := by
  refine runSteps_scheduled hs (congrArg Host.Outcome.next ?_) n
  rw [rxOffer_taken (s := takeMove rest s) hr hl]
  exact rxByte_early (s := { takeMove rest s with rxLine := line }) hr hc b

/-- A run begins with the byte that completes a frame (41_frame_assembler.md R121). -/
theorem runSteps_rx_fifth {s : State} {n : Nat} {b : Byte} {line : List Byte} {rest : List Move}
    (hr : rxReady s = true) (hc : s.count = 4) (hl : s.rxLine = b :: line) (hs : s.sched = .rx :: rest) :
    runSteps (n + 1) s =
      runSteps n { s with sr := shiftIn b s.sr, count := 0, valid := true, rxLine := line, sched := rest } := by
  refine runSteps_scheduled hs (congrArg Host.Outcome.next ?_) n
  rw [rxOffer_taken (s := takeMove rest s) hr hl]
  exact rxByte_fifth (s := { takeMove rest s with rxLine := line }) hr hc b

/-- Five bytes are one complete frame, whatever the shift register held (41_frame_assembler.md R123, R126). -/
theorem runSteps_rx_frame {s : State} {f : Frame} {line : List Byte} {rest : List Move} (hr : rxReady s = true)
    (hc : s.count = 0) (hl : s.rxLine = f.bytes ++ line) (hs : s.sched = List.replicate 5 Move.rx ++ rest) :
    runSteps 5 s = .next { s with sr := f, valid := true, rxLine := line, sched := rest } := by
  have hready {a : State} (hh : a.halted = s.halted) (hv : a.valid = s.valid) : rxReady a = true := by
    rw [← hr, rxReady, rxReady, hh, hv]
  refine Eq.trans (runSteps_rx_early hr (by simp [hc]) hl hs) ?_
  refine Eq.trans (runSteps_rx_early (hready rfl rfl) (by simp [hc]) rfl rfl) ?_
  refine Eq.trans (runSteps_rx_early (hready rfl rfl) (by simp [hc]) rfl rfl) ?_
  refine Eq.trans (runSteps_rx_early (hready rfl rfl) (by simp [hc]) rfl rfl) ?_
  refine Eq.trans (runSteps_rx_fifth (hready rfl rfl) (by simp [hc]) rfl rfl) ?_
  simp [shiftIn, hc]

/-! ### The dispatch and the backend's acknowledgement -/

/-- The two spellings of an outcome's events are one (20_memory.md R69). -/
theorem effectEvents_eq_outcomeEvents (e : Effect) : effectEvents e = outcomeEvents e := rfl

/-- After a dispatch and a BeAck the response is queued, whether the outcome notified or not (42_dispatch.md R143, R144). -/
theorem beAck_commit {s : State} (hh : s.halted = false) (hi : s.phase = .idle) (hp : s.pend = []) (e : Effect) :
    beAck (commit e s) =
      { s with ts := e.ts, trace := s.trace ++ outcomeEvents e, txq := s.txq ++ e.resp, valid := false } := by
  rcases hn : e.notify with _ | _
  · rw [beAck_ignored (by simp [beReq, hn, hi]), commit_eq, effectEvents_eq_outcomeEvents]
    simp [hn]
  · rw [beAck_enabled (by simp [beReq, hn, hh]), commit_eq, effectEvents_eq_outcomeEvents]
    simp [hn, hi, hp]

/-- An enabled dispatch, acknowledged by the backend if it notifies it: the frame's outcome, with the response queued. -/
theorem runSteps_dispatch_beAck {s : State} {rest : List Move} (he : dispatchEnabled s = true) (hp : s.pend = [])
    (hs : s.sched = .dispatch :: .beAck :: rest) :
    runSteps 2 s = .next
      { s with
        ts := (outcome (decodeFrame s.sr) s.params.ackOff s.ts).ts
        trace := s.trace ++ outcomeEvents (outcome (decodeFrame s.sr) s.params.ackOff s.ts)
        txq := s.txq ++ (outcome (decodeFrame s.sr) s.params.ackOff s.ts).resp
        valid := false
        sched := rest } := by
  obtain ⟨hh, -, hi, -⟩ := (dispatchEnabled_iff s).1 he
  have hdispatch : perform .dispatch (takeMove (.beAck :: rest) s) = .next
      (commit (outcome (decodeFrame s.sr) s.params.ackOff s.ts) (takeMove (.beAck :: rest) s)) :=
    (dispatchStep_enabled (s := takeMove (.beAck :: rest) s) he).trans (exec_eq_commit _ _)
  rw [runSteps_scheduled hs hdispatch, runSteps_scheduled (commit_sched _ _) rfl, runSteps_zero]
  have hcommit (e : Effect) : takeMove rest (commit e (takeMove (.beAck :: rest) s)) = commit e (takeMove rest s) := by
    rw [commit_eq, commit_eq]; rfl
  rw [hcommit, beAck_commit (s := takeMove rest s) hh hi hp]
  rfl

/-! ### The response -/

/-- No opcode has a response of more than RESP_MAX bytes (42_dispatch.md R141, 00_scope.md R8). -/
theorem rlen_le (op : Byte) : rlen op ≤ 5 := by
  unfold rlen
  repeat' split
  all_goals decide

theorem outcome_resp_length_le (f : Frame) (pol : AckOffPolarity) (ts : TS) :
    (outcome (decodeFrame f) pol ts).resp.length ≤ 5 := by
  rw [outcome_resp_length (encode_decodeFrame f).2]
  exact rlen_le _

/-- An empty queue has room for every response (00_scope.md R9, 42_dispatch.md R140). -/
theorem hasRoom_of_empty {s : State} (hpar : ParamsLegal s.params) (hq : s.txq = []) (op : Byte) :
    hasRoom s (rlen op) = true := by
  rw [hasRoom_iff, hq, List.length_nil, Nat.zero_add, ← withinDepth_iff]
  exact withinDepth_mono (n := 5) hpar (rlen_le op)

/-- TxByte steps enough for the queue's length send all of it, in order (20_memory.md R70, 42_dispatch.md R152). -/
theorem runSteps_tx {s : State} {n : Nat} {rest : List Move} (hh : s.halted = false) (hn : s.txq.length ≤ n)
    (hs : s.sched = List.replicate n Move.tx ++ rest) :
    runSteps n s = .next { s with trace := s.trace ++ s.txq.map Event.tx, txq := [], sched := rest } := by
  induction n generalizing s with
  | zero =>
    have hq : s.txq = [] := List.length_eq_zero_iff.1 (Nat.le_zero.1 hn)
    cases s
    simp_all
  | succ n ih =>
    have hs' : s.sched = .tx :: (List.replicate n Move.tx ++ rest) := hs
    refine Eq.trans (runSteps_scheduled hs' rfl n) ?_
    rcases hq : s.txq with _ | ⟨b, q⟩
    · rw [txByte_invalid (by simp [txValid, hq])]
      refine Eq.trans (ih hh (by simp [hq]) rfl) ?_
      simp [hq]
    · have htx : txByte (takeMove (List.replicate n Move.tx ++ rest) s) =
          { s with txq := q, trace := s.trace ++ [.tx b], sched := List.replicate n Move.tx ++ rest } := by
        simp [txByte, emit, takeMove, hh, hq]
      rw [htx]
      refine Eq.trans (ih hh (by simpa [hq] using hn) rfl) ?_
      simp

/-! ### One frame -/

theorem eagerFrame_eq :
    eagerFrame = List.replicate 5 Move.rx ++ ([Move.dispatch, Move.beAck] ++ List.replicate 5 Move.tx) := rfl

/-- Settles O52: the bytes complete the frame, it is dispatched and acknowledged, and the response leaves. -/
theorem eagerHostServesOneFrame : Obligations.EagerHostServesOneFrame := by
  intro s f line rest hinv hquiet hh hc hl hs
  obtain ⟨hpar, -, -, -, -, hidle, -⟩ := hinv
  obtain ⟨hv, hi, hq⟩ := hquiet
  rw [eagerFrame_eq, List.append_assoc, List.append_assoc] at hs
  have hframe := runSteps_rx_frame ((rxReady_iff s).2 ⟨hh, hv⟩) hc hl hs
  rw [show 12 = 5 + (2 + 5) from rfl, runSteps_add hframe]
  refine Eq.trans (runSteps_add (runSteps_dispatch_beAck ?enabled ?nothingHeld rfl) 5) ?_
  case enabled => exact (dispatchEnabled_iff _).2 ⟨hh, rfl, hi, hasRoom_of_empty (s := s) hpar hq f.d4⟩
  case nothingHeld => exact hidle hi
  refine Eq.trans (runSteps_tx hh ?_ rfl) ?_
  · simpa [hq] using outcome_resp_length_le f s.params.ackOff s.ts
  · simp [hq, ← hv]

end Sys2Proof.Machine
end

section
/-! SUPPORT and PROOFS. The decoder and the encoder are inverse to each other (30_encoding.md R80 to R91), the frame word holds
the bytes of its frame (R81), and ignored payload bytes reach nothing but a log record (R86). -/

namespace Sys2Proof.Machine

/-! ### Decode after encode -/

theorem decodeFrame_unlisted {f : Frame} (h : isListed f.d4 = false) : decodeFrame f = .unknown f.d4 f.payload := by
  rw [decodeFrame, rom_lookup_unlisted h]

theorem decodeFrame_listed {f : Frame} {c : Payload → Instr} (h : rom.lookup f.d4 = some c) :
    decodeFrame f = c f.payload := by
  rw [decodeFrame, h]

/-- The opcode the encoder writes selects the instruction's own entry of the ROM, or none for UNKNOWN (30_encoding.md R82). -/
theorem decodeFrame_encode {i : Instr} (h : wellFormed i = true) : decodeFrame (encode i) = i := by
  cases i with
  | unknown op x =>
    have hop : isListed op = false := by simpa [wellFormed] using h
    exact decodeFrame_unlisted (f := x.withOp op) hop
  | _ => rfl

/-- The first five bytes are one frame, and the rest stays (30_encoding.md R80). -/
theorem decode_bytes_append (f : Frame) (rest : List Byte) : decode (f.bytes ++ rest) = .ok (decodeFrame f, rest) := rfl

/-- Settles O17: the opcode of each constructor leads back to it, and decoding a byte list decodes its first frame. -/
theorem decodeOfEncodeIsTheInstruction : Obligations.DecodeOfEncodeIsTheInstruction := by
  intro i rest hi
  have hframe := decodeFrame_encode hi
  exact ⟨hframe, by rw [decode_bytes_append, hframe]⟩

/-- Settles O16: each written-out frame is the encoding of the instruction it stands for. -/
theorem decodeWrittenFrames : Obligations.DecodeWrittenFrames :=
  ⟨decodeFrame_encode (i := .setfreq ⟨0x01, 0x40, 0x74, 0x00⟩) rfl,
    decodeFrame_encode (i := .txstat ⟨0x00, 0x00, 0x00, 0x00⟩) rfl,
    decodeFrame_encode (i := .locktog ⟨0x00, 0x00, 0x00, 0x00⟩) rfl,
    decodeFrame_encode (i := .setmode 0x02 0x00 0x00 0x00) rfl,
    decodeFrame_encode (i := .uns0F ⟨0x00, 0x00, 0x00, 0x00⟩) rfl,
    decodeFrame_encode (i := .setclarf ⟨0x00, 0x00, 0x12, 0x34⟩) rfl,
    decodeFrame_encode (i := .unknown 0x80 ⟨0x00, 0x00, 0x00, 0x00⟩) rfl⟩

/-! ### The frame word -/

/-- The five bytes stand in the frame word from its top byte down (30_encoding.md R81). -/
theorem frameWord_bytes (f : Frame) :
    (frameWord f).extractLsb' 32 8 = f.d0 ∧ (frameWord f).extractLsb' 24 8 = f.d1 ∧
    (frameWord f).extractLsb' 16 8 = f.d2 ∧ (frameWord f).extractLsb' 8 8 = f.d3 ∧
    (frameWord f).extractLsb' 0 8 = f.d4 := by
  unfold frameWord
  refine ⟨?d0, ?d1, ?d2, ?d3, BitVec.extractLsb'_append_eq_right⟩
  -- A byte is read from the word without the bytes below it.
  all_goals repeat rw [BitVec.extractLsb'_append_eq_of_le (by decide)]
  case d0 => exact BitVec.extractLsb'_eq_self
  all_goals exact BitVec.extractLsb'_append_eq_right

/-- Every bit of a frame word is in one of the five bytes (30_encoding.md R81). -/
theorem frameWord_frameOfWord (w : FrameWord) : frameWord (frameOfWord w) = w := by
  simp only [frameWord, frameOfWord]
  iterate 4 rw [BitVec.extractLsb'_append_extractLsb'_eq_extractLsb' (by rfl)]
  exact BitVec.extractLsb'_eq_self

/-- Settles O18: by the entries of the ROM for the frames, and by the byte places for the frame word. -/
theorem encodeOfDecodeIsTheFrame : Obligations.EncodeOfDecodeIsTheFrame :=
  ⟨fun f => (encode_decodeFrame f).symm, frameWord_bytes, frameWord_frameOfWord⟩

/-! ### Ignored payload bytes -/

/-- Two outcomes that differ in no more than the frame word they log (30_encoding.md R86, 60_exceptions.md R238). -/
def SameButWord (e e' : Effect) : Prop :=
  e.ts = e'.ts ∧ e.notify = e'.notify ∧ e.resp = e'.resp ∧ e.ev.map Prod.fst = e'.ev.map Prod.fst

theorem sameButWord_refl (e : Effect) : SameButWord e e := ⟨rfl, rfl, rfl, rfl⟩

theorem sameButWord_replyLog (ts : TS) (c : Cause) (w w' : FrameWord) (resp : List Byte) :
    SameButWord (replyLog ts c w resp) (replyLog ts c w' resp) := ⟨rfl, rfl, rfl, rfl⟩

/-- An entry of the ROM of form NONE takes nothing from its payload but the word it logs (30_encoding.md R83, R86). -/
theorem rom_none_ignores_payload :
    ∀ r ∈ rom, r.1 ≠ 0x01 → r.1 ≠ 0x07 → ∀ (p q : Payload) (pol : AckOffPolarity) (ts : TS),
      SameButWord (outcome (r.2 p) pol ts) (outcome (r.2 q) pol ts) := by
  intro r hr h1 h7 p q pol ts
  simp only [rom, List.mem_cons, List.not_mem_nil, or_false] at hr
  -- SETFREQ and SETMODE go by `h1` and `h7`; the outcome of each other entry names its payload in the log event, if at all.
  casesm* _ ∨ _ <;> (subst r; simp [SameButWord, outcome, unsupportedOutcome, replyLog] at h1 h7 ⊢)

/-- The payload of a frame of form NONE shows in the logged word only (30_encoding.md R83, R86). -/
theorem outcome_none_ignores_payload {op : Byte} (h1 : op ≠ 0x01) (h7 : op ≠ 0x07) (p q : Payload)
    (pol : AckOffPolarity) (ts : TS) :
    SameButWord (outcome (decodeFrame (p.withOp op)) pol ts) (outcome (decodeFrame (q.withOp op)) pol ts) := by
  rcases h : rom.lookup op with _ | c
  · rw [decodeFrame_unlisted (f := p.withOp op) (unlisted_of_rom_lookup h),
      decodeFrame_unlisted (f := q.withOp op) (unlisted_of_rom_lookup h)]
    exact sameButWord_replyLog ..
  · rw [decodeFrame_listed (f := p.withOp op) h, decodeFrame_listed (f := q.withOp op) h]
    exact rom_none_ignores_payload _ (rom_lookup_mem h) h1 h7 p q pol ts

/-- The last three payload bytes of SETMODE show in the logged word only (30_encoding.md R85, R86). -/
theorem outcome_setmode_ignores_tail (m x1 x2 x3 y1 y2 y3 : Byte) (pol : AckOffPolarity) (ts : TS) :
    SameButWord (outcome (.setmode m x1 x2 x3) pol ts) (outcome (.setmode m y1 y2 y3) pol ts) := by
  rcases h : isMode m with _ | _
  · rw [outcome_setmode_bad h, outcome_setmode_bad h]
    exact sameButWord_replyLog ..
  · by_cases hm : m = ts.mode
    · rw [outcome_setmode_same h hm, outcome_setmode_same h hm]
      exact sameButWord_refl _
    · rw [outcome_setmode_new h hm, outcome_setmode_new h hm]
      exact sameButWord_refl _

/-- Settles O48: by the form of the opcode the two frames share. -/
theorem ignoredPayloadChangesNothing : Obligations.IgnoredPayloadChangesNothing := by
  rintro ⟨f0, f1, f2, f3, op⟩ ⟨g0, g1, g2, g3, op'⟩ pol ts hop hform
  obtain rfl : op = op' := hop
  rcases hform with ⟨h1, h7⟩ | ⟨h7, h0⟩
  · exact outcome_none_ignores_payload h1 h7 ⟨f0, f1, f2, f3⟩ ⟨g0, g1, g2, g3⟩ pol ts
  · obtain rfl : op = 0x07 := h7
    obtain rfl : f0 = g0 := h0
    exact outcome_setmode_ignores_tail f0 f1 f2 f3 g1 g2 g3 pol ts

end Sys2Proof.Machine
end

section
/-! SUPPORT and PROOFS. The assembler's SETFREQ and SETFREQ.B (30_encoding.md R92 to R94): PACK of a legal operand is read back
by UNPACK (40_codec.md R108), so the frames carry it. -/

namespace Sys2Proof.Machine

/-! ### Reading back a packed frequency -/

theorem hiNibble_bcdByte {t u : Nat} (ht : t ≤ 9) (hu : u ≤ 9) : hiNibble (bcdByte t u) = t := by
  rw [hiNibble_eq, bcdByte_toNat ht hu]; omega

theorem loNibble_bcdByte {t u : Nat} (ht : t ≤ 9) (hu : u ≤ 9) : loNibble (bcdByte t u) = u := by
  rw [loNibble_eq, bcdByte_toNat ht hu]; omega

/-- A packed byte of two digits is well formed (40_codec.md R103). -/
theorem bcdByteBad_bcdByte {t u : Nat} (ht : t ≤ 9) (hu : u ≤ 9) : bcdByteBad (bcdByte t u) = false := by
  rw [bcdByteBad_eq_false, hiNibble_bcdByte ht hu, loNibble_bcdByte ht hu]
  exact ⟨ht, hu⟩

theorem bcdGroup_bcdByte {t u : Nat} (ht : t ≤ 9) (hu : u ≤ 9) : bcdGroup (bcdByte t u) = 10 * t + u := by
  rw [bcdGroup, hiNibble_bcdByte ht hu, loNibble_bcdByte ht hu]

/-- Two neighbouring decimal digits are one digit to the base 100. -/
theorem decDigit_pair (v i : Nat) : 10 * decDigit v (i + 1) + decDigit v i = v / 10 ^ i % 100 := by
  rw [decDigit, decDigit, pow_succ, ← Nat.div_div_eq_div_mul]
  omega

/-- The eight decimal digits of a number below 10^8, in groups of two, are the number. -/
theorem decDigit_groups_eq {v : Nat} (hv : v < 10 ^ 8) :
    (10 * decDigit v 7 + decDigit v 6) * 10 ^ 6 + (10 * decDigit v 5 + decDigit v 4) * 10 ^ 4 +
      (10 * decDigit v 3 + decDigit v 2) * 10 ^ 2 + (10 * decDigit v 1 + decDigit v 0) = v := by
  rw [decDigit_pair v 6, decDigit_pair v 4, decDigit_pair v 2, decDigit_pair v 0]
  omega

/-- Below 10^9 Hz PACK writes the eight digits above the units of Hz (40_codec.md R101). -/
theorem pack_of_lt {f : Hz} (hf : f.toNat < 10 ^ 9) :
    pack f =
      ⟨bcdByte (decDigit (f.toNat / 10) 7) (decDigit (f.toNat / 10) 6),
       bcdByte (decDigit (f.toNat / 10) 5) (decDigit (f.toNat / 10) 4),
       bcdByte (decDigit (f.toNat / 10) 3) (decDigit (f.toNat / 10) 2),
       bcdByte (decDigit (f.toNat / 10) 1) (decDigit (f.toNat / 10) 0), false⟩ :=
  if_neg (by omega)

/-- The FREQ32 payload that PACK makes of a frequency (30_encoding.md R84, R92). -/
def packedPayload (f : Hz) : Payload := ⟨(pack f).b0, (pack f).b1, (pack f).b2, (pack f).b3⟩

/-- UNPACK reads back a multiple of 10 below 10^9 that PACK wrote (40_codec.md R108 (a)). -/
theorem freqOperand_packedPayload {f : Hz} (hf : f.toNat < 10 ^ 9) (h10 : f.toNat % 10 = 0) :
    freqOperand (packedPayload f) = ⟨f, false⟩ := by
  have hd := decDigit_le (f.toNat / 10)
  have hdigits : f.toNat / 10 < 10 ^ 8 := by omega
  have hf' : (freqOperand (packedPayload f)).f = f := by
    apply BitVec.eq_of_toNat_eq
    rw [freqOperand, unpack_f_toNat, packedPayload, pack_of_lt hf]
    simp only [bcdGroup_bcdByte, hd]
    rw [decDigit_groups_eq hdigits]
    omega
  have hbad : (freqOperand (packedPayload f)).bad = false := by
    simp only [freqOperand, unpack, packedPayload, pack_of_lt hf, bcdByteBad_bcdByte, hd, Bool.or_self]
  exact congrArg₂ Unpacked.mk hf' hbad

/-! ### Legal operands -/

/-- The operands of SETFREQ that the assembler accepts (30_encoding.md R94). -/
def HzLegal (hz : Int) : Prop := 0 ≤ hz ∧ hz % 10 = 0 ∧ hz ≤ 999999990

/-- A legal operand fits the frequency width (00_scope.md R8). -/
theorem ofInt_toNat_of_legal {hz : Int} (h : HzLegal hz) : ((BitVec.ofInt 32 hz).toNat : Int) = hz := by
  obtain ⟨h0, -, hmax⟩ := h
  rw [BitVec.toNat_ofInt]
  omega

/-- The frame of a legal SETFREQ line (30_encoding.md R92). -/
theorem assembleFreq_legal {hz : Int} (h : HzLegal hz) :
    assembleFreq hz = .ok (encode (.setfreq (packedPayload (BitVec.ofInt 32 hz)))).bytes :=
  if_pos h

theorem assembleFreq_illegal {hz : Int} (h : ¬ HzLegal hz) : assembleFreq hz = .error .badFrequency :=
  if_neg h

/-- The payload of a legal SETFREQ line reads back as its operand. -/
theorem freqOperand_of_legal {hz : Int} (h : HzLegal hz) :
    freqOperand (packedPayload (BitVec.ofInt 32 hz)) = ⟨BitVec.ofInt 32 hz, false⟩ := by
  have hn := ofInt_toNat_of_legal h
  obtain ⟨-, h10, hmax⟩ := h
  exact freqOperand_packedPayload (by omega) (by omega)

/-- Settles O59: the payload is the packed operand, and the refusal is the assembler's own test. -/
theorem assembledSetfreqCarriesItsOperand : Obligations.AssembledSetfreqCarriesItsOperand := by
  refine fun hz => ⟨fun h => ?_, assembleFreq_illegal⟩
  have hop : unpack _ _ _ _ = _ := freqOperand_of_legal h
  refine ⟨packedPayload (BitVec.ofInt 32 hz), assembleFreq_legal h, ?_, ?_⟩
  · rw [hop]
  · rw [hop, ofInt_toNat_of_legal h]

/-! ### SETFREQ.B -/

/-- A frame that notifies gives Notify and its response, and hands its TS to the frames after it (20_memory.md R68, R69). -/
theorem framesOutput_cons_notify {i : Instr} {pol : AckOffPolarity} {ts ts' : TS} {resp : List Byte}
    (hi : wellFormed i = true) (h : outcome i pol ts = replyNotify ts' resp) (fs : List Frame) :
    framesOutput pol ts (encode i :: fs) =
      ((framesOutput pol ts' fs).1, .notify :: resp.map .tx ++ (framesOutput pol ts' fs).2) := by
  rw [framesOutput, decodeFrame_encode hi, h]
  rfl

/-- Switch, write, switch back: the write goes to the other VFO (30_encoding.md R93). -/
theorem setActiveFreq_between_switches (f : Hz) (ts : TS) :
    { setActiveFreq f { ts with activeVFO := otherVfo ts.activeVFO } with activeVFO := ts.activeVFO } =
      match ts.activeVFO with
      | .A => { ts with vfoB := f }
      | .B => { ts with vfoA := f } := by
  obtain ⟨a, b, v, _⟩ := ts
  cases v <;> rfl

theorem otherVfo_otherVfo (v : Vfo) : otherVfo (otherVfo v) = v := by cases v <;> rfl

/-- The SETFREQ of a legal operand writes it to the active VFO and notifies (43_frequency_vfo.md R170). -/
theorem outcome_setfreq_of_legal {hz : Int} (h : HzLegal hz) (pol : AckOffPolarity) (ts : TS) :
    outcome (.setfreq (packedPayload (BitVec.ofInt 32 hz))) pol ts =
      replyNotify (setActiveFreq (BitVec.ofInt 32 hz) ts) [0x00] := by
  have hop := freqOperand_of_legal h
  rw [outcome_setfreq_good (congrArg Unpacked.bad hop), ← freqOperand, hop]

/-- Settles O60: VFOTOG, the SETFREQ of the operand, VFOTOG, each of which notifies. -/
theorem setfreqBWritesTheInactiveVfo : Obligations.SetfreqBWritesTheInactiveVfo := by
  intro hz pol ts h0 h10 hmax
  have h : HzLegal hz := ⟨h0, h10, hmax⟩
  refine ⟨encode (.vfotog ⟨0x00, 0x00, 0x00, 0x00⟩), encode (.setfreq (packedPayload (BitVec.ofInt 32 hz))),
    encode (.vfotog ⟨0x00, 0x00, 0x00, 0x00⟩), ?line, ?output⟩
  case line => rw [assembleLine, assembleFreq_legal h]; rfl
  case output =>
    rw [framesOutput_cons_notify rfl rfl, framesOutput_cons_notify rfl (outcome_setfreq_of_legal h pol _),
      framesOutput_cons_notify rfl rfl, setActiveFreq_activeVFO, otherVfo_otherVfo, setActiveFreq_between_switches]
    rfl

end Sys2Proof.Machine
end

section
/-! SUPPORT and PROOFS. The codec (40_codec.md R101 to R110): UNPACK reads the decimal value of the four bytes and tests their
nibbles, PACK writes the digits of `f / 10` or saturates, each inverts the other on well-formed data, and the ports keep the
byte order. -/

namespace Sys2Proof.Machine

/-! ### UNPACK -/

/-- A group by the nibbles of its byte (40_codec.md R105). -/
theorem bcdGroup_eq (b : Byte) : bcdGroup b = 10 * (b.toNat / 16) + b.toNat % 16 := by
  rw [bcdGroup, hiNibble_eq, loNibble_eq]

/-- A byte is malformed iff one of its nibbles is over 9 (40_codec.md R106). -/
theorem bcdByteBad_eq_true (b : Byte) : bcdByteBad b = true ↔ 9 < b.toNat / 16 ∨ 9 < b.toNat % 16 := by
  rw [bcdByteBad, hiNibble_eq, loNibble_eq, Bool.or_eq_true, decide_eq_true_iff, decide_eq_true_iff]

/-- UNPACK's flag looks at each of the four bytes (40_codec.md R106). -/
theorem unpack_bad_eq_any (b0 b1 b2 b3 : Byte) : (unpack b0 b1 b2 b3).bad = [b0, b1, b2, b3].any bcdByteBad := by
  simp [unpack, Bool.or_assoc]

/-- Settles O21: the value by groups, the flag byte by byte. -/
theorem unpackValueAndBad : Obligations.UnpackValueAndBad := by
  intro b0 b1 b2 b3 g
  constructor
  · simp only [unpack_f_toNat, bcdGroup_eq, g]
  · simp only [unpack_bad_eq_any, List.any_eq_true, bcdByteBad_eq_true]

/-- Settles O22: groups are at most 99 when well formed, and at most 165 in any case. -/
theorem unpackRange : Obligations.UnpackRange := by
  intro b0 b1 b2 b3
  refine ⟨?multiple, fun hgood => (freqOperand_legal (p := ⟨b0, b1, b2, b3⟩) hgood).2, fun _ => ?raw⟩
  case multiple => rw [unpack_f_toNat, Nat.mul_mod_right]
  case raw =>
    have g0 := bcdGroup_le b0
    have g1 := bcdGroup_le b1
    have g2 := bcdGroup_le b2
    have g3 := bcdGroup_le b3
    rw [unpack_f_toNat]
    omega

/-! ### PACK -/

/-- From 10^9 Hz on PACK saturates (40_codec.md R102). -/
theorem pack_of_ge {f : Hz} (hf : 10 ^ 9 ≤ f.toNat) : pack f = ⟨0x99, 0x99, 0x99, 0x99, true⟩ :=
  if_pos (by omega)

/-- PACK sees nothing of its operand but the tens of Hz (40_codec.md R103). -/
theorem pack_eq_of_tens_eq {f g : Hz} (h : f.toNat / 10 = g.toNat / 10) : pack f = pack g := by
  unfold pack
  rw [h]

/-- Below 10^9 Hz the groups of PACK's bytes add up to the tens of Hz (40_codec.md R101). -/
theorem pack_groups_eq {f : Hz} (hf : f.toNat < 10 ^ 9) :
    bcdGroup (pack f).b0 * 10 ^ 6 + bcdGroup (pack f).b1 * 10 ^ 4 + bcdGroup (pack f).b2 * 10 ^ 2 +
      bcdGroup (pack f).b3 = f.toNat / 10 := by
  have hd := decDigit_le (f.toNat / 10)
  simp only [pack_of_lt hf, bcdGroup_bcdByte, hd]
  exact decDigit_groups_eq (by omega)

/-- PACK writes well-formed bytes, saturated or not (40_codec.md R104). -/
theorem pack_bytes_good (f : Hz) :
    ∀ b ∈ [(pack f).b0, (pack f).b1, (pack f).b2, (pack f).b3], bcdByteBad b = false := by
  rcases Nat.lt_or_ge f.toNat (10 ^ 9) with hf | hf
  · have hd := decDigit_le (f.toNat / 10)
    simp [pack_of_lt hf, bcdByteBad_bcdByte, hd]
  · have h99 : bcdByteBad 0x99 = false := rfl
    simpa [pack_of_ge hf] using h99

/-- Settles O20: PACK's two branches, its bytes, and its dependence on the tens of Hz alone. -/
theorem packDigits : Obligations.PackDigits := by
  intro f
  refine ⟨fun hf => ⟨congrArg Packed.ovf (pack_of_lt hf), ?value⟩, pack_of_ge, fun b hb => ?nibbles, ?truncates⟩
  case value =>
    simp only [← bcdGroup_eq]
    exact pack_groups_eq hf
  case nibbles =>
    rw [← hiNibble_eq, ← loNibble_eq]
    exact (bcdByteBad_eq_false b).1 (pack_bytes_good f b hb)
  case truncates =>
    apply pack_eq_of_tens_eq
    rw [BitVec.toNat_ofNat]
    omega

/-! ### Round trips -/

/-- A well-formed byte is written again from any number that has its group at its place (40_codec.md R101, R105). -/
theorem bcdByte_decDigit_of_group {b : Byte} (hb : bcdByteBad b = false) {v i : Nat}
    (h : v / 10 ^ i % 100 = bcdGroup b) :
    bcdByte (decDigit v (i + 1)) (decDigit v i) = b := by
  have htens := decDigit_le v (i + 1)
  have hunits := decDigit_le v i
  obtain ⟨hhi, hlo⟩ := (bcdByteBad_eq_false b).1 hb
  have hdigits : 10 * decDigit v (i + 1) + decDigit v i = 10 * hiNibble b + loNibble b := (decDigit_pair v i).trans h
  apply BitVec.eq_of_toNat_eq
  rw [bcdByte_toNat htens hunits]
  rw [hiNibble_eq] at hhi hdigits
  rw [loNibble_eq] at hlo hdigits
  omega

/-- PACK writes again the well-formed bytes that UNPACK read (40_codec.md R108 (b)). -/
theorem pack_unpack {b0 b1 b2 b3 : Byte} (hgood : (unpack b0 b1 b2 b3).bad = false) :
    pack (unpack b0 b1 b2 b3).f = ⟨b0, b1, b2, b3, false⟩ := by
  obtain ⟨h0, h1, h2, h3⟩ :
      bcdByteBad b0 = false ∧ bcdByteBad b1 = false ∧ bcdByteBad b2 = false ∧ bcdByteBad b3 = false := by
    simpa [unpack_bad_eq_any] using hgood
  have g0 := bcdGroup_le_of_good h0
  have g1 := bcdGroup_le_of_good h1
  have g2 := bcdGroup_le_of_good h2
  have g3 := bcdGroup_le_of_good h3
  have hv := unpack_f_toNat b0 b1 b2 b3
  rw [pack_of_lt (by omega), bcdByte_decDigit_of_group h0 (by omega), bcdByte_decDigit_of_group h1 (by omega),
    bcdByte_decDigit_of_group h2 (by omega), bcdByte_decDigit_of_group h3 (by omega)]

/-- Settles O19: law (a) is the one the assembler rests on, law (b) holds byte by byte. -/
theorem codecRoundTrips : Obligations.CodecRoundTrips :=
  ⟨fun _ hf h10 => ⟨congrArg Packed.ovf (pack_of_lt hf), freqOperand_packedPayload hf h10⟩, fun _ _ _ _ => pack_unpack⟩

/-! ### The ports -/

/-- Four bytes stand in the word they form from its top byte down (40_codec.md R110). -/
theorem bcdWord_bytes (b0 b1 b2 b3 : Byte) :
    (b0 ++ b1 ++ b2 ++ b3).extractLsb' 24 8 = b0 ∧ (b0 ++ b1 ++ b2 ++ b3).extractLsb' 16 8 = b1 ∧
    (b0 ++ b1 ++ b2 ++ b3).extractLsb' 8 8 = b2 ∧ (b0 ++ b1 ++ b2 ++ b3).extractLsb' 0 8 = b3 := by
  refine ⟨?b0, ?b1, ?b2, BitVec.extractLsb'_append_eq_right⟩
  -- A byte is read from the word without the bytes below it.
  all_goals repeat rw [BitVec.extractLsb'_append_eq_of_le (by decide)]
  case b0 => exact BitVec.extractLsb'_eq_self
  all_goals exact BitVec.extractLsb'_append_eq_right

/-- Settles O23: both ports use the byte places of one word. -/
theorem codecPortLayout : Obligations.CodecPortLayout := by
  refine ⟨fun f => ?packs, fun b0 b1 b2 b3 => ?unpacks⟩
  case packs =>
    obtain ⟨h0, h1, h2, h3⟩ := bcdWord_bytes (pack f).b0 (pack f).b1 (pack f).b2 (pack f).b3
    exact ⟨h0, h1, h2, h3, rfl⟩
  case unpacks =>
    obtain ⟨h0, h1, h2, h3⟩ := bcdWord_bytes b0 b1 b2 b3
    rw [unpackPort, h0, h1, h2, h3]

end Sys2Proof.Machine
end

section
/-! SUPPORT and PROOFS. The frame assembler (41_frame_assembler.md R120 to R127): what an offered byte does, that five of them
are one frame, that frame after frame is served in arrival order, and that a placed frame is what the next step runs. -/

namespace Sys2Proof.Machine

/-! ### Offered bytes -/

/-- A byte the block is not ready for stays with the transport (41_frame_assembler.md R120). -/
theorem rxOffer_refused {s : State} (hr : rxReady s = false) : rxOffer s = s := by
  rcases rxOffer_cases s with ⟨e, -⟩ | ⟨b, line, -, hready, -⟩
  exacts [e, absurd hready (by simp [hr])]

theorem rxReady_eq_false_iff (s : State) : rxReady s = false ↔ s.halted = true ∨ s.valid = true := by
  simp [rxReady, or_comm, imp_iff_not_or]

/-- Settles O28: the byte is refused, or it is one of the first four of its frame, or it is the fifth. -/
theorem rxByteShiftsAndCounts : Obligations.RxByteShiftsAndCounts := by
  intro s b line rest hs hl
  refine (step_scheduled hs).trans (congrArg Host.Outcome.next ?_)
  rcases hr : rxReady s with _ | _
  · rw [if_pos ((rxReady_eq_false_iff s).1 hr)]
    exact rxOffer_refused (s := takeMove rest s) hr
  · rw [if_neg (by simp [← rxReady_eq_false_iff, hr]), rxOffer_taken (s := takeMove rest s) hr hl]
    by_cases hc : s.count = 4
    · rw [if_pos hc]
      exact rxByte_fifth (s := { takeMove rest s with rxLine := line }) hr hc b
    · rw [if_neg hc]
      exact rxByte_early (s := { takeMove rest s with rxLine := line }) hr hc b

/-- Settles O29: the five bytes are the frame `⟨b0, b1, b2, b3, b4⟩`, which nothing of the old `sr` is part of. -/
theorem fiveAcceptedBytesAreTheFrame : Obligations.FiveAcceptedBytesAreTheFrame := by
  intro s b0 b1 b2 b3 b4 line rest hh hv hc hl hs
  have hframe := runSteps_rx_frame (f := ⟨b0, b1, b2, b3, b4⟩) ((rxReady_iff s).2 ⟨hh, hv⟩) hc hl hs
  rw [hframe, ← hc]

/-! ### Frame after frame -/

/-- Settles O53, by induction on the frames: a served frame leaves the block as quiescent as it was, with the invariant kept,
so the next one begins where it did. -/
theorem eagerHostServesEveryFrame : Obligations.EagerHostServesEveryFrame := by
  intro fs
  induction fs with
  | nil =>
    intro s line rest _ _ _ _ hl hs
    have hline : s.rxLine = line := hl
    have hsched : s.sched = rest := hs
    simp [framesOutput, ← hline, ← hsched]
  | cons f fs ih =>
    intro s line rest hinv hquiet hh hc hl hs
    rw [List.flatMap_cons, List.append_assoc] at hl hs
    have hframe := eagerHostServesOneFrame s f _ _ hinv hquiet hh hc hl hs
    have hinv' := runSteps_keeps stateInv_kept hframe hinv
    rw [List.length_cons, Nat.mul_succ, Nat.add_comm, runSteps_add hframe, ih _ line rest hinv' hquiet hh hc rfl rfl]
    simp only [framesOutput, List.getLastD_cons, List.append_assoc]

/-! ### A placed frame -/

/-- A table word decodes to what the decoder reads from its frame (30_encoding.md R91). -/
theorem decodeFrame_of_decodeTableWord {n w : Nat} {i : Instr} (h : decodeTableWord n w = some i) :
    decodeFrame (frameOfTableWord n w) = i := by
  have hdecode := decode_bytes_append (frameOfTableWord n w) []
  rw [List.append_nil] at hdecode
  unfold decodeTableWord at h
  split at h
  · rw [hdecode] at h
    exact Option.some.inj h
  · cases h

/-- A placed frame has room for its response: its queue had it, or is emptied (42_dispatch.md R140). -/
theorem hasRoom_placeFrame {s : State} (hpar : ParamsLegal s.params) (f : Frame) :
    hasRoom (placeFrame f s) (rlen f.d4) = true := by
  rcases hr : hasRoom s (rlen f.d4) with _ | _
  · exact hasRoom_of_empty (s := placeFrame f s) hpar (by simp [hr]) f.d4
  · have hq : (placeFrame f s).txq = s.txq := by simp [hr]
    rw [hasRoom_iff, hq]
    exact (hasRoom_iff s _).1 hr

theorem dispatchEnabled_placeFrame {s : State} (hpar : ParamsLegal s.params) (f : Frame) :
    dispatchEnabled (placeFrame f s) = true :=
  (dispatchEnabled_iff _).2 ⟨rfl, rfl, rfl, hasRoom_placeFrame hpar f⟩

/-- Settles O26: the placed Dispatch is the next step, it is enabled, and it runs the decoded frame. -/
theorem withFetchWordRunsNext : Obligations.WithFetchWordRunsNext := by
  intro s w i hpar hi
  have hen := dispatchEnabled_placeFrame hpar (frameOfTableWord 40 w)
  have hsched : (s.withFetchWord 40 w).sched = .dispatch :: s.sched := placeFrame_sched _ s
  have hrun := dispatchStep_enabled (s := takeMove s.sched (s.withFetchWord 40 w)) hen
  rw [← decodeFrame_of_decodeTableWord hi]
  exact (step_scheduled hsched).trans hrun

end Sys2Proof.Machine
end

section
/-! SUPPORT and PROOFS. The steps that serve a dispatch (42_dispatch.md R140, R144, R152): what each does where it is enabled, and
that it waits where it is not; then the run that serves a block until it is quiescent (R155, R156). -/

namespace Sys2Proof.Machine

/-! ### One scheduled step -/

/-- With nothing scheduled a step is the block's own. -/
theorem step_unscheduled {s : State} (h : s.sched = []) : step s = dispatchStep s := by
  simp [step, nextStep, h]

/-- Settles O24: both steps come to the Dispatch step, which is enabled, in the state with the schedule moved on. -/
theorem stepRunsTheDecodedFrame : Obligations.StepRunsTheDecodedFrame := by
  rintro s i rfl hh hv hp hroom
  have he : dispatchEnabled s = true := (dispatchEnabled_iff s).2 ⟨hh, hv, hp, hroom⟩
  refine ⟨fun hs => ?_, fun rest hs => ?_⟩
  · exact (step_unscheduled hs).trans (dispatchStep_enabled he)
  · exact (step_scheduled hs).trans (dispatchStep_enabled (s := takeMove rest s) he)

/-- The four ways 42_dispatch.md R140 fails. -/
theorem dispatchEnabled_eq_false_iff (s : State) :
    dispatchEnabled s = false ↔
      s.halted = true ∨ s.valid = false ∨ s.phase = .waitBe ∨
        ∃ d, s.params.txqDepth = some d ∧ d < s.txq.length + rlen s.sr.d4 := by
  have hphase : s.phase = .waitBe ↔ s.phase ≠ .idle := by cases s.phase <;> simp
  rw [← Bool.not_eq_true, dispatchEnabled_iff, hasRoom_iff, hphase]
  simp only [not_and_or, Bool.not_eq_false, Bool.not_eq_true, not_forall, not_le, exists_prop, ne_eq]

/-- Settles O27: the scheduled Dispatch is taken off the schedule and does nothing. -/
theorem dispatchWaitsUntilEnabled : Obligations.DispatchWaitsUntilEnabled := by
  intro s rest hs hoff
  exact (step_scheduled hs).trans
    (dispatchStep_waits (s := takeMove rest s) ((dispatchEnabled_eq_false_iff s).2 hoff))

/-- Settles O30: `be_ack` acts exactly where `be_req` is 1. -/
theorem beAckQueuesHeldResponse : Obligations.BeAckQueuesHeldResponse := by
  intro s rest hs
  refine (step_scheduled hs).trans (congrArg Host.Outcome.next ?_)
  have hiff : beReq s = true ↔ s.halted = false ∧ s.phase = .waitBe := (beReq_iff s).trans and_comm
  split
  case isTrue h => exact beAck_enabled (s := takeMove rest s) (hiff.2 h)
  case isFalse h => exact beAck_ignored (s := takeMove rest s) (Bool.eq_false_iff.2 (mt hiff.1 h))

/-- Settles O31: halted, with an empty queue, and with a head to send. -/
theorem txByteSendsTheHead : Obligations.TxByteSendsTheHead := by
  intro s rest hs
  refine (step_scheduled hs).trans (congrArg Host.Outcome.next ?_)
  rcases hh : s.halted with _ | _
  · rcases hq : s.txq with _ | ⟨b, q⟩
    · simp [txByte, takeMove, hh, hq]
    · simp [txByte, takeMove, emit, hh, hq]
  · simp [txByte, takeMove, hh]

/-! ### Service until quiescence -/

theorem drainMoves_eq (n : Nat) :
    drainMoves n =
      .beAck :: (List.replicate n .tx ++ .dispatch :: .beAck :: (List.replicate 5 .tx ++ [])) := rfl

/-- BeAck of a running block leaves nothing held, whether it waited for the backend or not (42_dispatch.md R144,
10_state.md R40). -/
theorem beAck_of_running {s : State} (hidle : s.phase = .idle → s.pend = []) (hh : s.halted = false) :
    ∃ v, beAck s = { s with txq := s.txq ++ s.pend, pend := [], phase := .idle, valid := v } := by
  rcases hp : s.phase with _ | _
  · have hpend := hidle hp
    refine ⟨s.valid, ?_⟩
    rw [beAck_ignored (by simp [beReq, hp]), hpend, List.append_nil, ← hpend, ← hp]
  · exact ⟨false, beAck_enabled (by simp [beReq, hp, hh])⟩

/-- The backend's acknowledgement and the transport leave a running block idle, with nothing held or queued. -/
theorem runSteps_beAck_tx {s : State} {rest : List Move} (hidle : s.phase = .idle → s.pend = []) (hh : s.halted = false)
    (hs : s.sched = .beAck :: (List.replicate (s.txq.length + s.pend.length) .tx ++ rest)) :
    ∃ v tr, runSteps (s.txq.length + s.pend.length + 1) s = .next
      { s with pend := [], phase := .idle, valid := v, trace := tr, txq := [], sched := rest } := by
  obtain ⟨v, hack⟩ := beAck_of_running (s := takeMove (List.replicate (s.txq.length + s.pend.length) .tx ++ rest) s) hidle hh
  exact ⟨v, _, (runSteps_scheduled hs (congrArg Host.Outcome.next hack) _).trans
    (runSteps_tx hh (List.length_append ..).le rfl)⟩

/-- With an empty queue a scheduled Dispatch and BeAck free the block: a complete frame is served, and without one nothing is
to be done (42_dispatch.md R156). -/
theorem runSteps_dispatch_beAck_frees {s : State} {rest : List Move} (hpar : ParamsLegal s.params) (hh : s.halted = false)
    (hi : s.phase = .idle) (hp : s.pend = []) (hq : s.txq = []) (hs : s.sched = .dispatch :: .beAck :: rest) :
    ∃ ts tr q, q.length ≤ 5 ∧
      runSteps 2 s = .next { s with ts := ts, trace := tr, txq := q, valid := false, sched := rest } := by
  rcases hv : s.valid with _ | _
  · have hwaits := dispatchStep_waits (s := takeMove (.beAck :: rest) s) (by simp [dispatchEnabled, hv])
    have hack := beAck_ignored (s := takeMove rest (takeMove (.beAck :: rest) s)) (by simp [beReq, hi])
    refine ⟨s.ts, s.trace, s.txq, by simp [hq], ?_⟩
    rw [runSteps_scheduled hs hwaits, runSteps_scheduled (m := .beAck) rfl (congrArg Host.Outcome.next hack),
      runSteps_zero, ← hv]
    rfl
  · have hen : dispatchEnabled s = true := (dispatchEnabled_iff s).2 ⟨hh, hv, hi, hasRoom_of_empty hpar hq s.sr.d4⟩
    refine ⟨_, _, _, ?_, runSteps_dispatch_beAck hen hp hs⟩
    simpa [hq] using outcome_resp_length_le s.sr s.params.ackOff s.ts

/-- Settles O54: what is held and queued leaves, the frame is served, and its response leaves. -/
theorem servedBlockReachesQuiescence : Obligations.ServedBlockReachesQuiescence := by
  intro s hinv hh hs
  obtain ⟨hpar, -, -, -, -, hidle, -⟩ := hinv
  rw [drainMoves_eq] at hs
  obtain ⟨v, tr, hdrained⟩ := runSteps_beAck_tx hidle hh hs
  obtain ⟨ts, tr', q, hlen, hserved⟩ := runSteps_dispatch_beAck_frees
    (s := { s with
      pend := [], phase := .idle, valid := v, trace := tr, txq := []
      sched := .dispatch :: .beAck :: (List.replicate 5 .tx ++ []) }) hpar hh rfl rfl rfl rfl
  have hsent := (runSteps_add hserved 5).trans (runSteps_tx hh hlen rfl)
  exact ⟨_, (runSteps_add hdrained (2 + 5)).trans hsent, ⟨rfl, rfl, rfl⟩, rfl, rfl, rfl, rfl⟩

end Sys2Proof.Machine
end

section
/-! SUPPORT and PROOFS. The outcome of a dispatch (42_dispatch.md R141 to R149): the length of its response, its one event, what
it depends on; and that no step takes an event back (R147, R154). -/

namespace Sys2Proof.Machine

/-! ### The response -/

/-- RLEN with the classes of R141 written as lists: every handled or stub opcode but two has a response of one byte. -/
theorem rlen_eq_ite (op : Byte) :
    rlen op =
      if op = 0x03 then 5 else if op = 0xBB then 2 else if op ∈ handledOpcodes ++ stubOpcodes then 1 else 0 := by
  unfold rlen opClass
  split_ifs <;> simp_all

/-- RLEN is the table of 42_dispatch.md R141. -/
theorem rlen_eq_rlenTable (op : Byte) : rlen op = rlenTable op := by
  rw [rlen_eq_ite, rlenTable]
  split_ifs with h3 hBB hclass htable htable
  · rfl
  · rfl
  · rfl
  · simp [handledOpcodes, stubOpcodes] at hclass htable; tauto
  · simp [handledOpcodes, stubOpcodes] at hclass htable; tauto
  · rfl

/-- A dispatch that finds nothing held adds its response to what is queued or held (42_dispatch.md R143). -/
theorem commit_txq_append_pend {s : State} (hp : s.pend = []) (e : Effect) :
    (commit e s).txq ++ (commit e s).pend = s.txq ++ e.resp := by
  cases hn : e.notify <;> simp [hn, hp]

/-- Settles O43: the response of the committed outcome has the length of the table. -/
theorem responseLengthByOpcode : Obligations.ResponseLengthByOpcode := by
  intro i s t hi hp h
  rw [exec_eq_commit] at h
  cases h
  refine ⟨rlen_eq_rlenTable _, ?_⟩
  rw [commit_txq_append_pend hp, List.length_append, outcome_resp_length hi, rlen_eq_rlenTable]

/-! ### The event -/

/-- The instructions that notify the backend from TS `ts` (42_dispatch.md R143). -/
def NotifiesFrom (ts : TS) (i : Instr) : Prop :=
  (∃ p, i = .setfreq p ∧ (unpack p.p0 p.p1 p.p2 p.p3).bad = false) ∨ (∃ x, i = .vfotog x) ∨
  (∃ m x1 x2 x3, i = .setmode m x1 x2 x3 ∧ isMode m = true ∧ m ≠ ts.mode)

/-- The instructions that log their frame (42_dispatch.md R149). -/
def LogsFrame (i : Instr) : Prop :=
  (∃ p, i = .setfreq p ∧ (unpack p.p0 p.p1 p.p2 p.p3).bad = true) ∨
  (∃ m x1 x2 x3, i = .setmode m x1 x2 x3 ∧ isMode m = false) ∨
  opClass (opcodeOf i) = .unsupported ∨ (∃ op x, i = .unknown op x)

theorem outcome_notify_iff (i : Instr) (pol : AckOffPolarity) (ts : TS) :
    (outcome i pol ts).notify = true ↔ NotifiesFrom ts i := by
  cases i with
  | setfreq p =>
    rcases h : (unpack p.p0 p.p1 p.p2 p.p3).bad with _ | _
    · rw [outcome_setfreq_good h]; simp [NotifiesFrom, replyNotify, h]
    · rw [outcome_setfreq_bad h]; simp [NotifiesFrom, replyLog, h]
  | setmode m x1 x2 x3 =>
    rcases h : isMode m with _ | _
    · rw [outcome_setmode_bad h]; simp [NotifiesFrom, replyLog, h]
    · by_cases hm : m = ts.mode
      · rw [outcome_setmode_same h hm]; simp [NotifiesFrom, reply, hm]
      · rw [outcome_setmode_new h hm]; simp [NotifiesFrom, replyNotify, h, hm]
  | vfotog x => exact iff_of_true rfl (.inr (.inl ⟨x, rfl⟩))
  | _ => exact iff_of_false nofun (by simp [NotifiesFrom])

theorem outcome_ev_isSome_iff (i : Instr) (pol : AckOffPolarity) (ts : TS) :
    (outcome i pol ts).ev.isSome = true ↔ LogsFrame i := by
  cases i with
  | setfreq p =>
    have hclass : opClass (opcodeOf (.setfreq p)) = .handled := rfl
    rcases h : (unpack p.p0 p.p1 p.p2 p.p3).bad with _ | _
    · rw [outcome_setfreq_good h]; simp [LogsFrame, replyNotify, h, hclass]
    · rw [outcome_setfreq_bad h]; simp [LogsFrame, replyLog, h]
  | setmode m x1 x2 x3 =>
    have hclass : opClass (opcodeOf (.setmode m x1 x2 x3)) = .handled := rfl
    rcases h : isMode m with _ | _
    · rw [outcome_setmode_bad h]; simp [LogsFrame, replyLog, h]
    · by_cases hm : m = ts.mode
      · rw [outcome_setmode_same h hm]; simp [LogsFrame, reply, h, hclass]
      · rw [outcome_setmode_new h hm]; simp [LogsFrame, replyNotify, h, hclass]
  | uns09 x | uns0A x | uns0B x | uns0C x | uns0F x | uns8F x | unsA7 x | unsBA x | unsBC x | unsBE x | unsF9 x =>
    exact iff_of_true rfl (.inr (.inr (.inl rfl)))
  | unknown op x => exact iff_of_true rfl (.inr (.inr (.inr ⟨op, x, rfl⟩)))
  | _ =>
    refine iff_of_false nofun ?_
    rintro (⟨_, e, -⟩ | ⟨_, _, _, _, e, -⟩ | e | ⟨_, _, e⟩) <;> cases e

/-- Settles O44: the three shapes an outcome has are the three cases, told apart by its log event and its notification. -/
theorem dispatchEmitsAtMostOneEvent : Obligations.DispatchEmitsAtMostOneEvent := by
  intro i s t h
  rw [exec_eq_commit] at h
  cases h
  have hnotifies := outcome_notify_iff i s.params.ackOff s.ts
  have hlogs := outcome_ev_isSome_iff i s.params.ackOff s.ts
  rw [commit_trace]
  rcases outcome_kind i s.params.ackOff s.ts with ⟨ts', resp, e⟩ | ⟨ts', e⟩ | ⟨c, resp, e, -⟩ <;> rw [e] at hnotifies hlogs ⊢
  · exact .inr (.inr ⟨mt hnotifies.2 nofun, mt hlogs.2 nofun, List.append_nil _⟩)
  · exact .inl ⟨hnotifies.1 rfl, mt hlogs.2 nofun, rfl⟩
  · exact .inr (.inl ⟨hlogs.1 rfl, mt hnotifies.2 nofun, _, rfl⟩)

/-! ### What an outcome depends on -/

/-- Settles O47: both runs commit the same outcome, held or queued. -/
theorem outcomeDependsOnFrameAndTsOnly : Obligations.OutcomeDependsOnFrameAndTsOnly := by
  intro i s1 s2 t1 t2 hts hpol h1 h2
  rw [exec_eq_commit] at h1 h2
  rw [← hts, ← hpol] at h2
  cases h1
  cases h2
  refine ⟨by simp, effectEvents _, (outcome i s1.params.ackOff s1.ts).resp, commit_trace _ _, commit_trace _ _, ?_⟩
  rcases hn : (outcome i s1.params.ackOff s1.ts).notify with _ | _
  · exact .inr (by simp [hn])
  · exact .inl (by simp [hn])

/-! ### The trace -/

/-- Everything that can happen to a state leaves the events there were (42_dispatch.md R147). -/
theorem trace_kept (tr : List Event) : KeptByOps (fun s => tr <+: s.trace) where
  host := by
    rintro s t ⟨-, -, -, -, -, -, -, -, -, htrace⟩ hs
    exact htrace ▸ hs
  rxByte b s hs := by simpa using hs
  dispatch s _ hs := by rw [commit_trace]; exact hs.trans ⟨_, rfl⟩
  beAck s hs := by simpa using hs
  txByte s hs := by
    rcases txByte_cases s with e | ⟨b, rest, -, -, e⟩ <;> rw [e]
    exacts [hs, hs.trans ⟨_, rfl⟩]
  beFail s hs := by
    unfold beFail
    split
    exacts [hs, hs.trans ⟨_, rfl⟩]
  xportErr s hs := by rw [xportErr_eq]; exact hs.trans ⟨_, rfl⟩
  terminate s hs := by rw [terminate_eq]; exact hs.trans ⟨_, rfl⟩
  reset cfg s _ hs := hs

/-- A Reset, or a clock cycle with `rst = 1`, emits nothing (70_reset_and_hazards.md R263). -/
theorem perform_reset_trace {m : Move} {s t : State} (hm : isResetMove m = true) (h : perform m s = .next t) :
    t.trace = s.trace := by
  cases m with
  | reset cfg => obtain ⟨-, rfl⟩ := resetStep_next h; rfl
  | cycle d p => exact (clockCycle_rst_logs hm h).1
  | _ => cases hm

/-- Settles O42: no part of a step takes an event back, and a reset adds none. -/
theorem traceIsNeverRetracted : Obligations.TraceIsNeverRetracted := by
  intro s t h
  refine ⟨?_, fun m rest hs hm => ?_⟩
  · obtain ⟨es, he⟩ := step_keeps (trace_kept s.trace) h ⟨[], List.append_nil _⟩
    exact ⟨es, he.symm⟩
  · exact perform_reset_trace (s := takeMove rest s) hm ((step_scheduled hs).symm.trans h)

end Sys2Proof.Machine
end

section
/-! SUPPORT and PROOFS. The output ports (10_state.md R43 to R47, R52): each is its formula over the state as the cycle begins,
and what a cycle emits shows on `be_shutdown` and on the rise of `be_req` (42_dispatch.md R154). -/

namespace Sys2Proof.Machine

/-! ### The ports of one cycle -/

/-- The cycle halts a running block: `rst = 0`, and `xport_err` or `terminate` comes (60_exceptions.md R237, R242). -/
def haltsIn (p : PortIn) (s : State) : Bool := !p.rst && !s.halted && (p.xportErr || p.terminate)

@[simp] theorem preempt_txq (p : PortIn) (s : State) : (preempt p s).txq = s.txq := by
  obtain ⟨es, e⟩ := preempt_eq p s; rw [e]

/-- The two streams are ready in every cycle that is no reset, finds the block running and does not halt it (10_state.md R43,
R44). -/
theorem rxReady_portState (p : PortIn) (s : State) :
    (!p.rst && rxReady (portState p s)) = (!p.rst && !s.halted && !s.valid && !haltsIn p s) := by
  cases hr : p.rst <;> cases hh : s.halted <;> simp [portState, rxReady, haltsIn, hr, hh, Bool.and_comm]

theorem txValid_portState (p : PortIn) (s : State) :
    (!p.rst && txValid (portState p s)) = (!p.rst && !s.halted && decide (0 < s.txq.length) && !haltsIn p s) := by
  have hne : decide (0 < s.txq.length) = !s.txq.isEmpty := by cases s.txq <;> rfl
  cases hr : p.rst <;> cases hh : s.halted <;> simp [portState, txValid, haltsIn, hr, hh, hne, Bool.and_comm]

theorem portOut_beShutdown (d : Bool) (p : PortIn) (s : State) : (portOut d p s).beShutdown = haltsIn p s := by
  cases hr : p.rst <;> cases hh : s.halted <;> simp [portOut, portState, haltsIn, hr, hh]

theorem portState_txq (p : PortIn) (s : State) : (portState p s).txq = s.txq := by
  unfold portState; split <;> simp

/-- While `tx_valid` is 1, `tx_data` is the head of the queue (10_state.md R44). -/
theorem portOut_txData {d : Bool} {p : PortIn} {s : State} (h : (portOut d p s).txValid = true) :
    s.txq.head? = some (portOut d p s).txData := by
  have htv : (!p.rst && txValid (portState p s)) = true := h
  have hdata : (portOut d p s).txData = s.txq.headD (Config.txDataWhenInvalid s.cycles) := by
    simp only [portOut, htv, if_true, portState_txq]
  rw [txValid_portState] at htv
  rw [hdata]
  rcases hq : s.txq with _ | ⟨b, q⟩
  · simp [hq] at htv
  · rfl

/-! ### What a cycle emits -/

/-- From `s` to `t` no Notify and no Shutdown is emitted, and `be_req` does not rise. -/
def EmitsNoPulse (s t : State) : Prop :=
  (∃ es, t.trace = s.trace ++ es ∧ Event.shutdown ∉ es ∧ Event.notify ∉ es) ∧
  (beReq t = true → beReq s = true)

/-- From `s` to `t` a Notify is emitted exactly where `be_req` rises, and a Shutdown exactly where `shut` says. -/
def PulsesShown (shut : Bool) (s t : State) : Prop :=
  ∃ es, t.trace = s.trace ++ es ∧ (shut = true ↔ Event.shutdown ∈ es) ∧
    (beReq s = false ∧ beReq t = true ↔ Event.notify ∈ es)

theorem shutdown_notMem_effectEvents (e : Effect) : Event.shutdown ∉ effectEvents e := by
  rcases e with ⟨ts, notify, _ | ⟨c, w⟩, resp⟩ <;> cases notify <;> simp [effectEvents]

theorem notify_mem_effectEvents_iff (e : Effect) : Event.notify ∈ effectEvents e ↔ e.notify = true := by
  rcases e with ⟨ts, notify, _ | ⟨c, w⟩, resp⟩ <;> cases notify <;> simp [effectEvents]

/-- A dispatch raises `be_req` exactly when it notifies (42_dispatch.md R143). -/
theorem beReq_commit {s : State} (he : dispatchEnabled s = true) (e : Effect) : beReq (commit e s) = e.notify := by
  obtain ⟨hrun, -, hidle, -⟩ := (dispatchEnabled_iff s).1 he
  cases hn : e.notify <;> simp [beReq, hn, hrun, hidle]

@[simp] theorem beReq_logEvent (c : Cause) (w : FrameWord) (s : State) : beReq (logEvent c w s) = beReq s := rfl

theorem beReq_of_dispatchEnabled {s : State} (he : dispatchEnabled s = true) : beReq s = false := by
  obtain ⟨-, -, hidle, -⟩ := (dispatchEnabled_iff s).1 he
  simp [beReq, hidle]

section
variable {s t : State}

theorem emitsNoPulse_refl (s : State) : EmitsNoPulse s s := ⟨⟨[], by simp⟩, id⟩

theorem EmitsNoPulse.pulsesShown (h : EmitsNoPulse s t) : PulsesShown false s t := by
  obtain ⟨⟨es, htrace, hshut, hnotify⟩, hreq⟩ := h
  refine ⟨es, htrace, by simp [hshut], iff_of_false (fun hrise => ?_) hnotify⟩
  rw [hreq hrise.2] at hrise
  exact absurd hrise.1 nofun

/-- A step that emits neither pulse, and after which `be_req` is 1 only where it was. -/
theorem EmitsNoPulse.add {u : State} (h : EmitsNoPulse s t) {es : List Event} (htrace : u.trace = t.trace ++ es)
    (hshut : Event.shutdown ∉ es) (hnotify : Event.notify ∉ es) (hreq : beReq u = true → beReq t = true) :
    EmitsNoPulse s u := by
  obtain ⟨⟨es', htrace', hshut', hnotify'⟩, hreq'⟩ := h
  exact ⟨⟨es' ++ es, by rw [htrace, htrace', List.append_assoc], by simp [hshut, hshut'], by simp [hnotify, hnotify']⟩,
    hreq' ∘ hreq⟩

theorem EmitsNoPulse.txByte (h : EmitsNoPulse s t) : EmitsNoPulse s (txByte t) := by
  rcases txByte_cases t with e | ⟨b, rest, -, -, e⟩ <;> rw [e]
  · exact h
  · exact h.add (es := [.tx b]) rfl (by simp) (by simp) id

theorem EmitsNoPulse.rxByte (b : Byte) (h : EmitsNoPulse s t) : EmitsNoPulse s (rxByte b t) :=
  h.add (es := []) (by simp) (by simp) (by simp) (by simp)

theorem EmitsNoPulse.beAck (h : EmitsNoPulse s t) : EmitsNoPulse s (beAck t) := by
  refine h.add (es := []) (by simp) (by simp) (by simp) ?_
  rcases beAck_cases t with e | e <;> rw [e]
  exacts [id, by simp [beReq]]

/-- The transfers of a cycle send bytes and end waits, and emit neither pulse. -/
theorem emitsNoPulse_transfers (p : PortIn) (s : State) : EmitsNoPulse s (transfers p s) :=
  transfers_keeps (fun _ => .txByte) (fun b _ => .rxByte b) (fun _ => .beAck) p (emitsNoPulse_refl s)

/-- A dispatch that is enabled finds `be_req` 0, and raises it exactly when it notifies. -/
theorem EmitsNoPulse.commit (h : EmitsNoPulse s t) (hs : dispatchEnabled s = true) (ht : dispatchEnabled t = true)
    (e : Effect) : PulsesShown false s (commit e t) := by
  obtain ⟨⟨es, htrace, hshut, hnotify⟩, -⟩ := h
  refine ⟨es ++ effectEvents e, by rw [commit_trace, htrace, List.append_assoc], ?_, ?_⟩
  · simp [hshut, shutdown_notMem_effectEvents]
  · simp [hnotify, notify_mem_effectEvents_iff, beReq_commit ht, beReq_of_dispatchEnabled hs]

theorem PulsesShown.beFail {shut : Bool} (h : PulsesShown shut s t) : PulsesShown shut s (beFail t) := by
  rcases hh : t.halted with _ | _
  · obtain ⟨es, htrace, hshut, hnotify⟩ := h
    rw [beFail_running hh]
    exact ⟨es ++ [_], by rw [logEvent_trace, htrace, List.append_assoc], by simp [hshut], by simp [hnotify]⟩
  · rwa [beFail_halted hh]

/-- A cycle that does not halt a running block shows its dispatch's Notify. -/
theorem cycleSteps_running_pulsesShown {d : Bool} {p : PortIn} (hx : p.xportErr = false) (hterm : p.terminate = false)
    (h : cycleSteps d p s = .next t) : PulsesShown false s t := by
  obtain ⟨u, hu, e⟩ := cycleSteps_next d p s
  cases e.symm.trans h
  have htransfers := emitsNoPulse_transfers p s
  have hdispatched : PulsesShown false s u := by
    rw [preempt_quiet hx hterm] at hu
    rcases cycleDispatch_next d s (transfers p s) with e | ⟨-, hen, e⟩ <;> cases e.symm.trans hu
    · exact htransfers.pulsesShown
    · exact htransfers.commit hen (dispatchEnabled_transfers hen p) _
  unfold cycleBeFail
  split
  exacts [hdispatched.beFail, hdispatched]

/-- Halting a running block emits a Shutdown and no Notify (60_exceptions.md R237, R242). -/
theorem preempt_halting_trace {p : PortIn} (hh : s.halted = false) (hp : (p.xportErr || p.terminate) = true) :
    ∃ es, (preempt p s).trace = s.trace ++ es ∧ Event.shutdown ∈ es ∧ Event.notify ∉ es := by
  rcases hx : p.xportErr with _ | _
  · have hterm : p.terminate = true := by simpa [hx] using hp
    exact ⟨[.shutdown], by simp [preempt, hx, hterm, terminate_eq, hh], by simp, by simp⟩
  · refine ⟨[.log ⟨.transportFail, .fatal, 0⟩, .shutdown], ?_, by simp, by simp⟩
    cases hterm : p.terminate <;> simp [preempt, hx, hterm, xportErr_eq, terminate_eq, hh]

theorem preempt_halting_pulsesShown {p : PortIn} (hh : s.halted = false) (hp : (p.xportErr || p.terminate) = true) :
    PulsesShown true s (preempt p s) := by
  obtain ⟨es, htrace, hshut, hnotify⟩ := preempt_halting_trace hh hp
  have hreq : beReq (preempt p s) = false := by
    rw [beReq, preempt_halted_eq, hh, Bool.false_or, hp, Bool.not_true, Bool.and_false]
  exact ⟨es, htrace, iff_of_true rfl hshut, iff_of_false (by simp [hreq]) hnotify⟩

/-- The steps of a cycle with `rst = 0`: of a halted block, of one that halts, and of one that goes on running. -/
theorem cycleSteps_pulsesShown {d : Bool} {p : PortIn} (hr : p.rst = false) (h : cycleSteps d p s = .next t) :
    PulsesShown (haltsIn p s) s t ∧ (haltsIn p s = true → t.halted = true) := by
  rcases hh : s.halted with _ | _
  · rcases hp : p.xportErr || p.terminate with _ | _
    · obtain ⟨hx, hterm⟩ := Bool.or_eq_false_iff.1 hp
      rw [show haltsIn p s = false by simp [haltsIn, hp]]
      exact ⟨cycleSteps_running_pulsesShown hx hterm h, nofun⟩
    · have hstop : (preempt p s).halted = true := by rw [preempt_halted_eq, Bool.or_assoc, hp, Bool.or_true]
      cases (cycleSteps_halted hstop d).symm.trans h
      rw [show haltsIn p s = true by simp [haltsIn, hr, hh, hp]]
      exact ⟨preempt_halting_pulsesShown hh hp, fun _ => hstop⟩
  · have hsame := preempt_halted hh p
    cases (cycleSteps_halted (hsame.symm ▸ hh) d).symm.trans h
    rw [hsame, show haltsIn p s = false by simp [haltsIn, hh]]
    exact ⟨(emitsNoPulse_refl s).pulsesShown, nofun⟩

/-- A clock cycle: its steps, or of a reset, which emits nothing and after which `be_req` has not risen. -/
theorem clockCycle_pulsesShown {d : Bool} {p : PortIn} (h : clockCycle d p s = .next t) :
    PulsesShown (haltsIn p s) s t ∧ (haltsIn p s = true → t.halted = true) := by
  rcases hr : p.rst with _ | _
  · obtain ⟨u, hu, rfl⟩ := clockCycle_running hr h
    exact cycleSteps_pulsesShown (t := u) hr hu
  · have hquiet : EmitsNoPulse s t := by
      refine ⟨⟨[], by simp [(clockCycle_rst_logs hr h).1]⟩, ?_⟩
      rcases clockCycle_next h with ⟨-, -, rfl⟩ | ⟨-, -, -, rfl⟩ | ⟨hr', -⟩
      exacts [id, nofun, absurd (hr.symm.trans hr') nofun]
    rw [show haltsIn p s = false by simp [haltsIn, hr]]
    exact ⟨hquiet.pulsesShown, nofun⟩

end

/-- Settles O57: the ports' formulas, and the pulses of the cycle shown on `be_shutdown` and `be_req`. -/
theorem outputPortsShowTheState : Obligations.OutputPortsShowTheState := by
  refine ⟨fun d p s => ?_, fun d d' p p' s t h => ?_⟩
  · refine ⟨rxReady_portState p s, txValid_portState p s, portOut_txData, rfl, portOut_beShutdown d p s, rfl, rfl, rfl, ?_,
      rfl, rfl, rfl, rfl, rfl⟩
    show vfoBit s.ts.activeVFO = true ↔ s.ts.activeVFO = .B
    cases s.ts.activeVFO <;> simp [vfoBit]
  · obtain ⟨⟨es, htrace, hshut, hnotify⟩, hhalt⟩ := clockCycle_pulsesShown h
    rw [htrace, List.drop_left, portOut_beShutdown, portOut_beShutdown]
    exact ⟨hshut, fun hs => ⟨hhalt hs, by simp [haltsIn, hhalt hs]⟩, hnotify⟩

end Sys2Proof.Machine
end

section
/-! SUPPORT and PROOFS. The frequency and VFO opcodes (43_frequency_vfo.md R170 to R172): the whole state each leads to. The first
part gives that state for each of the three shapes an outcome has, whatever the instruction (42_dispatch.md R143). -/

namespace Sys2Proof.Machine

/-! ### The state after a dispatch, by the shape of its outcome -/

/-- A plain reply: TS written, the response queued, the assembler free (42_dispatch.md R143). -/
theorem exec_of_reply {i : Instr} {s : State} {ts : TS} {resp : List Byte}
    (h : outcome i s.params.ackOff s.ts = reply ts resp) : exec i s = .next (afterReply s ts resp) := by
  rw [exec_eq_commit, h]
  rfl

/-- A notification: TS written, Notify emitted, the response held for the backend (42_dispatch.md R143). -/
theorem exec_of_replyNotify {i : Instr} {s : State} {ts : TS} {resp : List Byte}
    (h : outcome i s.params.ackOff s.ts = replyNotify ts resp) : exec i s = .next (afterNotify s ts resp) := by
  rw [exec_eq_commit, h]
  rfl

/-- A log event: TS kept, the frame logged at the severity of its cause, the response queued (60_exceptions.md R231, R238). -/
theorem exec_of_replyLog {i : Instr} {s : State} {c : Cause} {w : FrameWord} {resp : List Byte}
    (h : outcome i s.params.ackOff s.ts = replyLog s.ts c w resp) :
    exec i s = .next (afterLog s c (causeSeverity c) w resp) := by
  rw [exec_eq_commit, h]
  rfl

/-! ### The active VFO -/

theorem activeFreq_A {ts : TS} (h : ts.activeVFO = .A) : activeFreq ts = ts.vfoA := by
  simp [activeFreq, h]

theorem activeFreq_B {ts : TS} (h : ts.activeVFO = .B) : activeFreq ts = ts.vfoB := by
  simp [activeFreq, h]

/-- GETFREQ answers PACK of the active VFO, then the mode code (43_frequency_vfo.md R171). -/
theorem exec_getfreq (x : Payload) (s : State) :
    exec (.getfreq x) s = .next (afterReply s s.ts
      [(pack (activeFreq s.ts)).b0, (pack (activeFreq s.ts)).b1, (pack (activeFreq s.ts)).b2, (pack (activeFreq s.ts)).b3,
        s.ts.mode]) :=
  exec_of_reply rfl

/-- VFOTOG inverts the selector and notifies (43_frequency_vfo.md R172). -/
theorem exec_vfotog (x : Payload) (s : State) :
    exec (.vfotog x) s = .next (afterNotify s { s.ts with activeVFO := otherVfo s.ts.activeVFO } [0x00]) :=
  exec_of_replyNotify rfl

/-! ### The obligations -/

/-- Settles O1: by the test of the payload, then by the active VFO. -/
theorem setfreqWritesActiveVfoOrLogs : Obligations.SetfreqWritesActiveVfoOrLogs := by
  refine fun p s => ⟨decodeFrame_encode (i := .setfreq p) rfl, ?_⟩
  split_ifs with hbad
  · exact exec_of_replyLog (outcome_setfreq_bad hbad _ _)
  · have hwrite := exec_of_replyNotify (s := s) (outcome_setfreq_good (Bool.eq_false_iff.2 hbad) _ _)
    cases hv : s.ts.activeVFO with
    | A => rw [hwrite, setActiveFreq_A hv]
    | B => rw [hwrite, setActiveFreq_B hv]

/-- Settles O2: by the active VFO, which is the one PACK is given. -/
theorem getfreqReturnsFrequencyAndMode : Obligations.GetfreqReturnsFrequencyAndMode := by
  refine fun x s => ⟨decodeFrame_encode (i := .getfreq x) rfl, ?_⟩
  cases hv : s.ts.activeVFO with
  | A => rw [exec_getfreq, activeFreq_A hv]
  | B => rw [exec_getfreq, activeFreq_B hv]

/-- Settles O3: by the active VFO, whose selector is inverted. -/
theorem vfotogSwitchesAndNotifies : Obligations.VfotogSwitchesAndNotifies := by
  refine fun x s => ⟨decodeFrame_encode (i := .vfotog x) rfl, ?_⟩
  cases hv : s.ts.activeVFO with
  | A => rw [exec_vfotog, hv, otherVfo]
  | B => rw [exec_vfotog, hv, otherVfo]

end Sys2Proof.Machine
end

section
/-! SUPPORT and PROOFS. The status reads (44_status_reads.md R180 to R183) and the stubs (47_unsupported_stub.md R222, R223): each
is a plain reply that leaves TS as it was. -/

namespace Sys2Proof.Machine

/-! ### The bytes -/

/-- The table of TXSTAT: 0x80 tells PTT off, 0x20 tells split on, and the other bits are 0 (44_status_reads.md R180). -/
theorem txStatusByte_table :
    txStatusByte false false = 0x80 ∧ txStatusByte false true = 0xA0 ∧
    txStatusByte true false = 0x00 ∧ txStatusByte true true = 0x20 := by decide

@[simp] theorem ackIf_true : ackIf true = 0xF0 := rfl
@[simp] theorem ackIf_false : ackIf false = 0x00 := rfl

/-! ### The state after each status read -/

/-- TXSTAT answers its status byte (44_status_reads.md R180). -/
theorem exec_txstat (x : Payload) (s : State) :
    exec (.txstat x) s = .next (afterReply s s.ts [txStatusByte s.ts.ptt s.ts.split]) :=
  exec_of_reply rfl

/-- GETKEY answers the acknowledgement byte of `ptt` (44_status_reads.md R183). -/
theorem exec_getkey (x : Payload) (s : State) :
    exec (.getkey x) s = .next (afterReply s s.ts [ackIf s.ts.ptt]) :=
  exec_of_reply rfl

/-! ### The obligations -/

/-- Settles O4: by the values of `ptt` and `split`, one row of the table each. -/
theorem txstatReportsPttAndSplit : Obligations.TxstatReportsPttAndSplit := by
  refine fun x s => ⟨decodeFrame_encode (i := .txstat x) rfl, ?_⟩
  obtain ⟨hff, hft, htf, htt⟩ := txStatusByte_table
  rw [exec_txstat]
  cases s.ts.ptt with
  | false =>
    cases s.ts.split with
    | false => rw [hff]
    | true => rw [hft]
  | true =>
    cases s.ts.split with
    | false => rw [htf]
    | true => rw [htt]

/-- Settles O5: each opcode selects its own entry of the ROM, and each outcome is a reply of constants. -/
theorem constantResponses : Obligations.ConstantResponses := fun x _ =>
  ⟨decodeFrame_encode (i := .rxstat x) rfl, decodeFrame_encode (i := .rdeeprom x) rfl,
    decodeFrame_encode (i := .txmeter x) rfl, decodeFrame_encode (i := .setclarf x) rfl,
    exec_of_reply rfl, exec_of_reply rfl, exec_of_reply rfl, exec_of_reply rfl⟩

/-- Settles O6: by the value of `ptt`. -/
theorem getkeyReportsPtt : Obligations.GetkeyReportsPtt := by
  refine fun x s => ⟨decodeFrame_encode (i := .getkey x) rfl, ?_⟩
  rw [exec_getkey]
  cases s.ts.ptt with
  | true => rw [ackIf_true, if_pos rfl]
  | false => rw [ackIf_false, if_neg Bool.false_ne_true]

end Sys2Proof.Machine
end

section
/-! SUPPORT and PROOFS. The flag opcodes (45_toggles.md R190 to R196): each writes one flag and answers one acknowledgement byte, by
a rule of its own (R197). -/

namespace Sys2Proof.Machine

/-! ### The acknowledgement bytes -/

/-- The acknowledgement byte as the ON opcodes' rules write it (45_toggles.md R193, R195). -/
theorem ackIf_eq (c : Bool) : ackIf c = if c = true then 0xF0 else 0x00 := rfl

/-- REQUESTED: 0xF0 tells that the flag was off already (45_toggles.md R192, R194). -/
@[simp] theorem ackOffByte_requested (prior : Bool) : ackOffByte .requested prior = ackIf (!prior) := rfl

/-- PRIOR_VALUE: 0xF0 tells that the flag was on (45_toggles.md R192, R194). -/
@[simp] theorem ackOffByte_priorValue (prior : Bool) : ackOffByte .priorValue prior = ackIf prior := rfl

/-- The four bytes of an OFF opcode that follows ACK_OFF_POLARITY (45_toggles.md R192, R194). -/
theorem ackOffByte_table (pol : AckOffPolarity) (prior : Bool) :
    ackOffByte pol prior = match pol, prior with
      | .requested, false => 0xF0
      | .requested, true => 0x00
      | .priorValue, true => 0xF0
      | .priorValue, false => 0x00 := by
  cases pol with
  | requested => cases prior <;> simp
  | priorValue => cases prior <;> simp

/-! ### The state after each flag opcode -/

/-- LOCKTOG acknowledges the value it writes (45_toggles.md R190). -/
theorem exec_locktog (x : Payload) (s : State) :
    exec (.locktog x) s = .next (afterReply s { s.ts with lock := !s.ts.lock } [ackIf (!s.ts.lock)]) :=
  exec_of_reply rfl

/-- SPLITON inverts `split` and acknowledges the value it found (45_toggles.md R191). -/
theorem exec_spliton (x : Payload) (s : State) :
    exec (.spliton x) s = .next (afterReply s { s.ts with split := !s.ts.split } [ackIf s.ts.split]) :=
  exec_of_reply rfl

/-- SPLITOFF clears `split`; its acknowledgement follows ACK_OFF_POLARITY (45_toggles.md R192). -/
theorem exec_splitoff (x : Payload) (s : State) :
    exec (.splitoff x) s = .next (afterReply s { s.ts with split := false } [ackOffByte s.params.ackOff s.ts.split]) :=
  exec_of_reply rfl

/-- CLARON sets `clar` and acknowledges the value it found (45_toggles.md R193). -/
theorem exec_claron (x : Payload) (s : State) :
    exec (.claron x) s = .next (afterReply s { s.ts with clar := true } [ackIf s.ts.clar]) :=
  exec_of_reply rfl

/-- CLAROFF clears `clar`; its acknowledgement follows ACK_OFF_POLARITY (45_toggles.md R194). -/
theorem exec_claroff (x : Payload) (s : State) :
    exec (.claroff x) s = .next (afterReply s { s.ts with clar := false } [ackOffByte s.params.ackOff s.ts.clar]) :=
  exec_of_reply rfl

/-- PTTON sets `ptt` and acknowledges the value it found (45_toggles.md R195). -/
theorem exec_ptton (x : Payload) (s : State) :
    exec (.ptton x) s = .next (afterReply s { s.ts with ptt := true } [ackIf s.ts.ptt]) :=
  exec_of_reply rfl

/-- PTTOFF clears `ptt` and answers 0x00 when it was set, whatever ACK_OFF_POLARITY (45_toggles.md R196). -/
theorem exec_pttoff (x : Payload) (s : State) :
    exec (.pttoff x) s = .next (afterReply s { s.ts with ptt := false } [if s.ts.ptt = true then 0x00 else 0xF0]) :=
  exec_of_reply rfl

/-! ### The obligations -/

/-- Settles O7: by the value of `lock`, whose inverse is written and acknowledged. -/
theorem locktogInvertsLock : Obligations.LocktogInvertsLock := by
  refine fun x s => ⟨decodeFrame_encode (i := .locktog x) rfl, ?_⟩
  rw [exec_locktog]
  cases s.ts.lock with
  | true => rw [Bool.not_true, ackIf_false, if_pos rfl]
  | false => rw [Bool.not_false, ackIf_true, if_neg Bool.false_ne_true]

/-- Settles O8: by the value of `split`, which is acknowledged and whose inverse is written. -/
theorem splitonInvertsSplit : Obligations.SplitonInvertsSplit := by
  refine fun x s => ⟨decodeFrame_encode (i := .spliton x) rfl, ?_⟩
  rw [exec_spliton]
  cases s.ts.split with
  | true => rw [Bool.not_true, ackIf_true, if_pos rfl]
  | false => rw [Bool.not_false, ackIf_false, if_neg Bool.false_ne_true]

/-- Settles O9: the acknowledgement is the table of ACK_OFF_POLARITY at the value of `split` found. -/
theorem splitoffClearsSplit : Obligations.SplitoffClearsSplit := by
  refine fun x s => ⟨decodeFrame_encode (i := .splitoff x) rfl, ?_⟩
  have hexec := exec_splitoff x s
  rw [ackOffByte_table] at hexec
  exact hexec

/-- Settles O10: `clar` is set whatever it was, and the value found is the one acknowledged. -/
theorem claronSetsClar : Obligations.ClaronSetsClar := by
  refine fun x s => ⟨decodeFrame_encode (i := .claron x) rfl, ?_⟩
  rw [exec_claron, ackIf_eq]

/-- Settles O11: the acknowledgement is the table of ACK_OFF_POLARITY at the value of `clar` found. -/
theorem claroffClearsClar : Obligations.ClaroffClearsClar := by
  refine fun x s => ⟨decodeFrame_encode (i := .claroff x) rfl, ?_⟩
  have hexec := exec_claroff x s
  rw [ackOffByte_table] at hexec
  exact hexec

/-- Settles O12: PTTON acknowledges the value of `ptt` found; PTTOFF's bytes are the model's own, for no ACK_OFF_POLARITY enters. -/
theorem pttonSetsAndPttoffClearsPtt : Obligations.PttonSetsAndPttoffClearsPtt := by
  refine fun x s => ⟨decodeFrame_encode (i := .ptton x) rfl, decodeFrame_encode (i := .pttoff x) rfl, ?_, exec_pttoff x s⟩
  rw [exec_ptton, ackIf_eq]

end Sys2Proof.Machine
end

section
/-! SUPPORT and PROOFS. The mode opcode SETMODE (46_mode.md R200): the whole state each of its three cases leads to. -/

namespace Sys2Proof.Machine

/-- The table of mode codes as bytes (10_state.md R25). -/
theorem isMode_eq_contains (m : Byte) :
    isMode m = ([0x00, 0x01, 0x02, 0x03, 0x04, 0x08, 0x0A, 0x0C] : List Byte).contains m := rfl

/-- A byte that is no mode code is logged with its whole frame and leaves TS alone (46_mode.md R200). -/
theorem exec_setmode_bad {m : Byte} (h : isMode m = false) (x1 x2 x3 : Byte) (s : State) :
    exec (.setmode m x1 x2 x3) s =
      .next (afterLog s .badMode .warning (bytesWord m x1 x2 x3 0x07) [0x00]) :=
  exec_of_replyLog (outcome_setmode_bad h x1 x2 x3 _ _)

/-- The current mode is written again and not notified (46_mode.md R200). -/
theorem exec_setmode_same {m : Byte} {s : State} (h : isMode m = true) (hm : m = s.ts.mode) (x1 x2 x3 : Byte) :
    exec (.setmode m x1 x2 x3) s = .next (afterReply s { s.ts with mode := m } [0x00]) :=
  exec_of_reply (outcome_setmode_same h hm x1 x2 x3 _)

/-- Another mode is written and notified (46_mode.md R200). -/
theorem exec_setmode_new {m : Byte} {s : State} (h : isMode m = true) (hm : m ≠ s.ts.mode) (x1 x2 x3 : Byte) :
    exec (.setmode m x1 x2 x3) s = .next (afterNotify s { s.ts with mode := m } [0x00]) :=
  exec_of_replyNotify (outcome_setmode_new h hm x1 x2 x3 _)

/-! ### The obligation -/

/-- Settles O13: by the test of the byte against the table, then by its comparison with the current mode. -/
theorem setmodeWritesKnownModes : Obligations.SetmodeWritesKnownModes := by
  refine fun m x1 x2 x3 s => ⟨decodeFrame_encode (i := .setmode m x1 x2 x3) rfl, ?_⟩
  rw [← isMode_eq_contains]
  split_ifs with hmode hsame
  · exact exec_setmode_same hmode hsame x1 x2 x3
  · exact exec_setmode_new hmode hsame x1 x2 x3
  · exact exec_setmode_bad (Bool.eq_false_iff.2 hmode) x1 x2 x3 s

end Sys2Proof.Machine
end

section
/-! SUPPORT and PROOFS. The unsupported and the unknown opcodes (47_unsupported_stub.md R210 to R221, R224): the frame is logged,
nothing is answered and TS stays as it was. -/

namespace Sys2Proof.Machine

/-! ### The state after each kind of opcode -/

/-- The frame word written out by its bytes (30_encoding.md R81). -/
theorem instrWord_of_encode {i : Instr} {x : Payload} {op : Byte} (h : encode i = x.withOp op) :
    instrWord i = bytesWord x.p0 x.p1 x.p2 x.p3 op := by
  rw [instrWord, h]
  rfl

/-- An opcode with the behaviour of R210 logs its frame at low severity and queues nothing (47_unsupported_stub.md R210). -/
theorem exec_of_unsupported {i : Instr} {x : Payload} {op : Byte} {s : State} (henc : encode i = x.withOp op)
    (hout : outcome i s.params.ackOff s.ts = unsupportedOutcome (instrWord i) s.ts) :
    exec i s = .next (afterLog s .unsupported .low (bytesWord x.p0 x.p1 x.p2 x.p3 op) []) := by
  rw [← instrWord_of_encode henc]
  exact exec_of_replyLog hout

/-- UNKNOWN logs its frame as a warning and queues nothing (47_unsupported_stub.md R224). -/
theorem exec_unknown (op : Byte) (x : Payload) (s : State) :
    exec (.unknown op x) s = .next (afterLog s .unknownOpcode .warning (bytesWord x.p0 x.p1 x.p2 x.p3 op) []) := by
  rw [← instrWord_of_encode (i := .unknown op x) rfl]
  exact exec_of_replyLog rfl

/-- The listed opcodes in the order of the table (30_encoding.md R88). -/
theorem listedOpcodes_eq :
    listedOpcodes =
      [0x01, 0x03, 0xF7, 0xE7, 0xBB, 0x81, 0x00, 0x02, 0x82, 0x05, 0x85, 0x07, 0x08, 0x88, 0x10, 0x09, 0x0A, 0x0B, 0x0C, 0x0F,
        0x8F, 0xA7, 0xBA, 0xBC, 0xBE, 0xF9, 0xBD, 0xF5] := rfl

/-! ### The obligations -/

/-- Settles O14: each opcode selects its own entry of the ROM, and all eleven have the behaviour of R210. -/
theorem unsupportedOpcodesLogAndStaySilent : Obligations.UnsupportedOpcodesLogAndStaySilent := fun x _ =>
  ⟨decodeFrame_encode (i := .uns09 x) rfl, decodeFrame_encode (i := .uns0A x) rfl, decodeFrame_encode (i := .uns0B x) rfl,
    decodeFrame_encode (i := .uns0C x) rfl, decodeFrame_encode (i := .uns0F x) rfl, decodeFrame_encode (i := .uns8F x) rfl,
    decodeFrame_encode (i := .unsA7 x) rfl, decodeFrame_encode (i := .unsBA x) rfl, decodeFrame_encode (i := .unsBC x) rfl,
    decodeFrame_encode (i := .unsBE x) rfl, decodeFrame_encode (i := .unsF9 x) rfl,
    exec_of_unsupported rfl rfl, exec_of_unsupported rfl rfl, exec_of_unsupported rfl rfl, exec_of_unsupported rfl rfl,
    exec_of_unsupported rfl rfl, exec_of_unsupported rfl rfl, exec_of_unsupported rfl rfl, exec_of_unsupported rfl rfl,
    exec_of_unsupported rfl rfl, exec_of_unsupported rfl rfl, exec_of_unsupported rfl rfl⟩

/-- Settles O15: the written-out opcodes are the listed ones, and the ROM has no entry for any other. -/
theorem unknownOpcodesLogAndStaySilent : Obligations.UnknownOpcodesLogAndStaySilent := by
  refine fun op x s => ⟨fun hop => ?_, exec_unknown op x s⟩
  rw [← listedOpcodes_eq] at hop
  exact decodeFrame_unlisted (f := x.withOp op) hop

end Sys2Proof.Machine
end

section
/-! SUPPORT and PROOFS. Log events and halting (60_exceptions.md R231, R236 to R238, R242, R243): what BeFail, XportErr and
Terminate do to a running and to a halted block, and what the record of a logged frame carries. -/

namespace Sys2Proof.Machine

/-! ### Halting a running block -/

/-- XportErr logs and halts a running block (60_exceptions.md R237). -/
theorem xportErr_of_running {s : State} (h : s.halted = false) :
    xportErr s =
      { s with
        trace := s.trace ++ [.log { cause := .transportFail, sev := .fatal, word := 0 }, .shutdown]
        halted := true } := by
  simp [xportErr_eq, h]

/-- Terminate halts a running block (60_exceptions.md R242). -/
theorem terminate_of_running {s : State} (h : s.halted = false) :
    terminate s = { s with trace := s.trace ++ [.shutdown], halted := true } :=
  terminate_running h

/-- Settles O32: `be_fail` acts exactly while the block runs. -/
theorem beFailOnlyLogs : Obligations.BeFailOnlyLogs := by
  intro s rest hs
  refine (step_scheduled hs).trans (congrArg Host.Outcome.next ?_)
  split
  case isTrue h => exact beFail_halted (s := takeMove rest s) h
  case isFalse h => exact beFail_running (s := takeMove rest s) (Bool.eq_false_iff.2 h)

/-- Settles O33: both steps halt a running block and leave a halted one alone. -/
theorem haltEntryStopsTheBlock : Obligations.HaltEntryStopsTheBlock := by
  refine fun s rest => ⟨fun hs => ?xport, fun hs => ?term⟩
  case xport =>
    refine (step_scheduled hs).trans (congrArg Host.Outcome.next ?_)
    split
    case isTrue h => exact xportErr_halted (s := takeMove rest s) h
    case isFalse h => exact xportErr_of_running (s := takeMove rest s) (Bool.eq_false_iff.2 h)
  case term =>
    refine (step_scheduled hs).trans (congrArg Host.Outcome.next ?_)
    split
    case isTrue h => exact terminate_halted (s := takeMove rest s) h
    case isFalse h => exact terminate_of_running (s := takeMove rest s) (Bool.eq_false_iff.2 h)

/-! ### The record of a frame -/

/-- The record an instruction logs has one of the causes 1 to 4, its severity, and the instruction's word
(60_exceptions.md R231, R238). -/
theorem logRecord_of_outcome {i : Instr} {pol : AckOffPolarity} {ts : TS} {r : LogRecord}
    (h : effectEvents (outcome i pol ts) = [.log r]) :
    r.word = instrWord i ∧ r.sev = causeSeverity r.cause ∧ r.cause ≠ .backendFail ∧ r.cause ≠ .transportFail := by
  rcases outcome_kind i pol ts with ⟨_, _, e⟩ | ⟨_, e⟩ | ⟨_, _, e, hb, ht⟩ <;> rw [e] at h <;> cases h
  exact ⟨rfl, rfl, hb, ht⟩

/-- Settles O45: the one event the frame's outcome adds is the record, and decoding keeps the frame word. -/
theorem logRecordCarriesTheFrame : Obligations.LogRecordCarriesTheFrame := by
  intro f s t r h htrace
  rw [exec_eq_commit] at h
  cases h
  rw [commit_trace] at htrace
  obtain ⟨hword, hsev, hb, ht⟩ := logRecord_of_outcome (List.append_cancel_left htrace)
  refine ⟨hword.trans (instrWord_decodeFrame f), ?_⟩
  rcases hc : r.cause with _ | _ | _ | _ | _ | _ <;> rw [hc] at hsev
  case backendFail => exact absurd hc hb
  case transportFail => exact absurd hc ht
  all_goals simp [hsev, causeSeverity]

end Sys2Proof.Machine
end

section
/-! SUPPORT and PROOFS. Reset and the priority of simultaneous inputs (60_exceptions.md R241, R243; 70_reset_and_hazards.md R260
to R262): a reset as a step and over several clock cycles, a cycle that halts the block, a cycle in which no input is raised, and
the steps of a block that is halted already. -/

namespace Sys2Proof.Machine

/-! ### Reset -/

theorem resetStep_legal {cfg : Cfg} (h : cfgLegal cfg = true) (s : State) : resetStep cfg s = .next (resetTo cfg s) :=
  if_pos h

theorem resetStep_illegal {cfg : Cfg} (h : cfgLegal cfg = false) (s : State) :
    resetStep cfg s = .refused (.illegalConfiguration cfg) :=
  if_neg (Bool.eq_false_iff.1 h)

/-- Settles O34: the test of the configuration is the one written out, and a legal one is loaded. -/
theorem resetLoadsTheConfiguration : Obligations.ResetLoadsTheConfiguration := by
  intro s cfg rest hs
  have hlegal := cfgLegal_iff cfg
  refine ⟨fun h => ?_, fun h => ?_⟩
  · exact (step_scheduled hs).trans (resetStep_legal (hlegal.2 h) _)
  · exact (step_scheduled hs).trans (resetStep_illegal (Bool.eq_false_iff.2 (mt hlegal.1 h)) _)

/-- A reset is held while the next scheduled step is again a clock cycle with `rst = 1` (10_state.md R53). -/
theorem rstHeld_iff (s : State) :
    rstHeld s = true ↔ ∃ d q rest, s.sched = .cycle d q :: rest ∧ q.rst = true := by
  unfold rstHeld
  split
  case h_1 d q rest hs => simp [hs]
  case h_2 hs => exact iff_of_false nofun fun ⟨d, q, rest, e, _⟩ => hs d q rest e

theorem resetCycle_held {s : State} (h : rstHeld s = true) (cfg : Cfg) :
    resetCycle cfg s = .next { s with cycles := s.cycles + 1 } :=
  if_pos h

/-- The last cycle of a reset loads a legal configuration (70_reset_and_hazards.md R260). -/
theorem resetCycle_last_legal {s : State} {cfg : Cfg} (h : rstHeld s = false) (hc : cfgLegal cfg = true) :
    resetCycle cfg s = .next { resetTo cfg s with cycles := s.cycles + 1 } := by
  simp [resetCycle, h, resetStep_legal hc]

/-- The last cycle of a reset refuses an illegal configuration (70_reset_and_hazards.md R262). -/
theorem resetCycle_last_illegal {s : State} {cfg : Cfg} (h : rstHeld s = false) (hc : cfgLegal cfg = false) :
    resetCycle cfg s = .refused (.illegalConfiguration cfg) := by
  simp [resetCycle, h, resetStep_illegal hc]

theorem clockCycle_of_rst {p : PortIn} (hr : p.rst = true) (d : Bool) (s : State) :
    clockCycle d p s = resetCycle p.cfg s :=
  if_pos hr

/-! ### Clock cycles with `rst = 0` -/

/-- A cycle with `rst = 0` ends what its steps lead to. -/
theorem clockCycle_of_cycleSteps {d : Bool} {p : PortIn} {s t : State} (hr : p.rst = false)
    (h : cycleSteps d p s = .next t) : clockCycle d p s = .next (endCycle s t) := by
  simp [clockCycle, hr, h]

/-- A cycle that ends halted does nothing after `xport_err` and `terminate` (60_exceptions.md R241). -/
theorem clockCycle_of_preempt_halted {p : PortIn} {s : State} (hr : p.rst = false) (h : (preempt p s).halted = true)
    (d : Bool) : clockCycle d p s = .next (endCycle s (preempt p s)) :=
  clockCycle_of_cycleSteps hr (cycleSteps_halted h d)

/-- `terminate` finds the block halted where `xport_err` came (60_exceptions.md R241 items 2 and 3). -/
theorem preempt_of_xportErr {p : PortIn} (hx : p.xportErr = true) (s : State) : preempt p s = xportErr s := by
  have hhalted : (xportErr s).halted = true := by rw [xportErr_eq]
  simp [preempt, hx, terminate_halted hhalted]

theorem preempt_of_terminate {p : PortIn} (hx : p.xportErr = false) (ht : p.terminate = true) (s : State) :
    preempt p s = terminate s := by
  simp [preempt, hx, ht]

/-- The log records among the events a cycle adds to the trace join the queue, and the first in it is shown
(60_exceptions.md R241). -/
theorem endCycle_of_trace {s t : State} {es : List Event} (h : t.trace = s.trace ++ es) :
    endCycle s t =
      { t with logQueue := (s.logQueue ++ es.filterMap logOfEvent).tail, cycles := s.cycles + 1 } := by
  rw [endCycle, logWaiting, newLogs, h, List.drop_left]

/-- Settles O56: a reset that is held and its last cycle; then the two inputs that halt, each of which leaves nothing else of the
cycle to happen. -/
theorem simultaneousInputsPriority : Obligations.SimultaneousInputsPriority := by
  refine fun d p s => ⟨fun hr hheld => ?held, fun hr hlast hc => ?last, fun hr hx hh => ?xport, fun hr hx ht hh => ?term⟩
  case held => rw [clockCycle_of_rst hr, resetCycle_held ((rstHeld_iff s).2 hheld)]
  case last =>
    have hnot : rstHeld s = false := by
      rw [← Bool.not_eq_true, rstHeld_iff]
      rintro ⟨d', q, rest, hs, hq⟩
      exact Bool.eq_false_iff.1 (hlast d' q rest hs) hq
    rw [clockCycle_of_rst hr, resetCycle_last_legal hnot hc]
  case xport =>
    have hpre := (preempt_of_xportErr hx s).trans (xportErr_of_running hh)
    rw [clockCycle_of_preempt_halted hr (by rw [hpre]), hpre, endCycle_of_trace rfl]
    rfl
  case term =>
    have hpre := (preempt_of_terminate hx ht s).trans (terminate_of_running hh)
    have hlogs : s.logQueue ++ [Event.shutdown].filterMap logOfEvent = s.logQueue := List.append_nil _
    rw [clockCycle_of_preempt_halted hr (by rw [hpre]), hpre, endCycle_of_trace rfl, hlogs]

/-- With no input raised the steps of a cycle are its Dispatch alone (60_exceptions.md R241). -/
theorem cycleSteps_quiet {p : PortIn} (hq : QuietIn p) {s t : State} (he : dispatchEnabled s = true)
    (h : exec (fetchInstr s) s = .next t) : cycleSteps true p s = .next t := by
  obtain ⟨-, hrx, htx, hack, hfail, hx, ht⟩ := hq
  have htransfers : transfers p s = s := by simp [transfers, hrx, htx, hack]
  simp [cycleSteps, preempt_quiet hx ht, htransfers, cycleDispatch, he, h, cycleBeFail, hfail]

/-- Settles O25: the cycle's Dispatch is enabled and its `exec` answers, and the end of the cycle moves on the model's own fields. -/
theorem clockCycleRunsTheDecodedFrame : Obligations.ClockCycleRunsTheDecodedFrame := by
  intro s p rest hs hq hh hv hp hroom
  have he : dispatchEnabled (takeMove rest s) = true := (dispatchEnabled_iff s).2 ⟨hh, hv, hp, hroom⟩
  have hexec := exec_eq_commit (fetchInstr (takeMove rest s)) (takeMove rest s)
  refine ⟨_, hexec, (step_scheduled hs).trans ?_⟩
  exact clockCycle_of_cycleSteps hq.1 (cycleSteps_quiet hq he hexec)

/-! ### A halted block -/

/-- The outcome is a next state with the block of `s`, its trace included, and nothing taken from the transport. -/
def KeepsBlock (s : State) (o : Host.Outcome State Fault Refusal) : Prop :=
  ∃ t, o = .next t ∧ SameBlock s t ∧ t.rxLine = s.rxLine

theorem keepsBlock_next {s t : State} (h : t = s) : KeepsBlock s (.next t) := ⟨s, by rw [h], sameBlock_refl s, rfl⟩

/-- No Dispatch is enabled in a halted block (42_dispatch.md R140). -/
theorem dispatchStep_halted {s : State} (hh : s.halted = true) : KeepsBlock s (dispatchStep s) := by
  rw [dispatchStep_waits (dispatchEnabled_halted hh)]
  exact keepsBlock_next rfl

/-- A scheduled step of a halted block that is no reset changes at most the log port's queue and the cycle count
(60_exceptions.md R243, 10_state.md R39). -/
theorem perform_halted {m : Move} {s : State} (hm : isResetMove m = false) (hh : s.halted = true) :
    KeepsBlock s (perform m s) := by
  cases m with
  | reset cfg => cases hm
  | rx => exact keepsBlock_next (rxOffer_refused ((rxReady_eq_false_iff s).2 (.inl hh)))
  | dispatch => exact dispatchStep_halted hh
  | beAck => exact keepsBlock_next (beAck_ignored (by simp [beReq, hh]))
  | tx => exact keepsBlock_next (txByte_invalid (by simp [txValid, hh]))
  | beFail => exact keepsBlock_next (beFail_halted hh)
  | xportErr => exact keepsBlock_next (xportErr_halted hh)
  | terminate => exact keepsBlock_next (terminate_halted hh)
  | cycle d p =>
    have hpre := preempt_halted hh p
    have hcycle := clockCycle_of_preempt_halted hm (hpre.symm ▸ hh) d
    rw [hpre] at hcycle
    exact ⟨endCycle s s, hcycle, sameBlock_refl s, rfl⟩

/-- Settles O41: with nothing scheduled no Dispatch is enabled, and the scheduled step does nothing to the block. -/
theorem haltedBlockChangesOnlyByReset : Obligations.HaltedBlockChangesOnlyByReset := by
  intro s hh hm
  rcases step_cases s with ⟨-, e⟩ | ⟨m, rest, hs, e⟩ <;> rw [e]
  · exact dispatchStep_halted hh
  · exact perform_halted (s := takeMove rest s) (hm m rest hs) hh

end Sys2Proof.Machine
end

section
/-! SUPPORT and PROOFS. No step stops (60_exceptions.md R230) but a Reset with an illegal configuration (70_reset_and_hazards.md
R262): what a step can answer, and that it leaves the rest of the schedule as it was. -/

namespace Sys2Proof.Machine

/-! ### The schedule -/

@[simp] theorem rxByte_sched (b : Byte) (s : State) : (rxByte b s).sched = s.sched := by
  rcases rxByte_cases b s with e | ⟨c, v, e⟩ <;> simp [e]
@[simp] theorem rxOffer_sched (s : State) : (rxOffer s).sched = s.sched := by
  rcases rxOffer_cases s with ⟨e, -⟩ | ⟨b, rest, -, -, e⟩ <;> simp [e]
@[simp] theorem beAck_sched (s : State) : (beAck s).sched = s.sched := by
  rcases beAck_cases s with e | e <;> simp [e]
@[simp] theorem txByte_sched (s : State) : (txByte s).sched = s.sched := by
  rcases txByte_cases s with e | ⟨b, rest, -, -, e⟩ <;> simp [e]
@[simp] theorem beFail_sched (s : State) : (beFail s).sched = s.sched := by unfold beFail; split <;> rfl
@[simp] theorem xportErr_sched (s : State) : (xportErr s).sched = s.sched := by rw [xportErr_eq]
@[simp] theorem terminate_sched (s : State) : (terminate s).sched = s.sched := by rw [terminate_eq]
@[simp] theorem preempt_sched (p : PortIn) (s : State) : (preempt p s).sched = s.sched :=
  preempt_keeps (P := fun a => a.sched = s.sched) (by simp) (by simp) p rfl
@[simp] theorem transfers_sched (p : PortIn) (s : State) : (transfers p s).sched = s.sched :=
  transfers_keeps (P := fun a => a.sched = s.sched) (by simp) (by simp) (by simp) p rfl
@[simp] theorem cycleBeFail_sched (p : PortIn) (s : State) : (cycleBeFail p s).sched = s.sched := by
  unfold cycleBeFail; split <;> simp

/-! ### What a step answers -/

/-- The outcome is a next state with the schedule `ms`. -/
def AnswersWith (ms : List Move) (o : Host.Outcome State Fault Refusal) : Prop := ∃ t, o = .next t ∧ t.sched = ms

/-- The outcome is the refusal of a configuration, which is illegal. -/
def RefusesCfg (o : Host.Outcome State Fault Refusal) : Prop :=
  ∃ cfg, o = .refused (.illegalConfiguration cfg) ∧ cfgLegal cfg = false

theorem dispatchStep_answers (s : State) : AnswersWith s.sched (dispatchStep s) := by
  rcases dispatchStep_next s with e | ⟨-, e⟩
  exacts [⟨_, e, rfl⟩, ⟨_, e, commit_sched _ _⟩]

theorem cycleSteps_answers (d : Bool) (p : PortIn) (s : State) : AnswersWith s.sched (cycleSteps d p s) := by
  obtain ⟨u, hu, e⟩ := cycleSteps_next d p s
  refine ⟨_, e, ?_⟩
  rcases cycleDispatch_next d (preempt p s) (transfers p (preempt p s)) with e' | ⟨-, -, e'⟩ <;> cases e'.symm.trans hu <;>
    simp

/-- A clock cycle answers, or it is the last of a reset and its configuration is illegal. -/
theorem clockCycle_answers (d : Bool) (p : PortIn) (s : State) :
    AnswersWith s.sched (clockCycle d p s) ∨ (moveLegal (.cycle d p) = false ∧ RefusesCfg (clockCycle d p s)) := by
  rcases hr : p.rst with _ | _
  · obtain ⟨t, ht, hsched⟩ := cycleSteps_answers d p s
    exact .inl ⟨_, clockCycle_of_cycleSteps hr ht, hsched⟩
  · rw [clockCycle_of_rst hr]
    rcases hheld : rstHeld s with _ | _
    · rcases hc : cfgLegal p.cfg with _ | _
      · exact .inr ⟨by simp [moveLegal, hr, hc], _, resetCycle_last_illegal hheld hc, hc⟩
      · exact .inl ⟨_, resetCycle_last_legal hheld hc, rfl⟩
    · exact .inl ⟨_, resetCycle_held hheld p.cfg, rfl⟩

/-- A scheduled step answers, or it is a reset and its configuration is illegal (70_reset_and_hazards.md R262). -/
theorem perform_answers (m : Move) (s : State) :
    AnswersWith s.sched (perform m s) ∨ (moveLegal m = false ∧ RefusesCfg (perform m s)) := by
  cases m with
  | reset cfg =>
    rcases hc : cfgLegal cfg with _ | _
    · exact .inr ⟨hc, cfg, resetStep_illegal hc s, hc⟩
    · exact .inl ⟨_, resetStep_legal hc s, rfl⟩
  | rx => exact .inl ⟨_, rfl, rxOffer_sched s⟩
  | dispatch => exact .inl (dispatchStep_answers s)
  | beAck => exact .inl ⟨_, rfl, beAck_sched s⟩
  | tx => exact .inl ⟨_, rfl, txByte_sched s⟩
  | beFail => exact .inl ⟨_, rfl, beFail_sched s⟩
  | xportErr => exact .inl ⟨_, rfl, xportErr_sched s⟩
  | terminate => exact .inl ⟨_, rfl, terminate_sched s⟩
  | cycle d p => exact clockCycle_answers d p s

/-- A step answers with the rest of the schedule, or the host broke its duty and the step refuses the configuration. -/
theorem step_answers (s : State) :
    AnswersWith s.sched.tail (step s) ∨ (¬ SchedLegal s ∧ RefusesCfg (step s)) := by
  rcases step_cases s with ⟨hs, e⟩ | ⟨m, rest, hs, e⟩ <;> rw [e]
  · have hanswers := dispatchStep_answers s
    rw [hs] at hanswers ⊢
    exact .inl hanswers
  · rw [hs]
    rcases perform_answers m (takeMove rest s) with h | ⟨hm, h⟩
    · exact .inl h
    · exact .inr ⟨by simp [SchedLegal, hs, hm], h⟩

/-- Settles O38: a step answers or refuses a configuration, and what is left of a legal schedule is legal. -/
theorem noStepStopsButForAnIllegalReset : Obligations.NoStepStopsButForAnIllegalReset := by
  refine ⟨fun s hlegal => ?answers, fun s r h => ?refuses⟩
  case answers =>
    obtain ⟨t, ht, hsched⟩ := (step_answers s).resolve_right fun h => h.1 hlegal
    refine ⟨t, ht, ?_⟩
    rw [SchedLegal, List.all_eq_true] at hlegal ⊢
    exact fun m hm => hlegal m (List.mem_of_mem_tail (hsched ▸ hm))
  case refuses =>
    rcases step_answers s with ⟨t, ht, -⟩ | ⟨-, cfg, hcfg, hc⟩
    · cases h.symm.trans ht
    · cases h.symm.trans hcfg
      exact ⟨cfg, rfl, hc⟩

end Sys2Proof.Machine
end

section
/-! SUPPORT and PROOFS. Repeated frames (70_reset_and_hazards.md R272): the TS of an outcome as a function of the TS it is given. -/

namespace Sys2Proof.Machine

/-- SETFREQ writes the active VFO or leaves TS alone, by its payload (43_frequency_vfo.md R170). -/
theorem outcome_setfreq_ts (p : Payload) (pol : AckOffPolarity) (ts : TS) :
    (outcome (.setfreq p) pol ts).ts = if (freqOperand p).bad then ts else setActiveFreq (freqOperand p).f ts := by
  rcases outcome_setfreq_cases p pol ts with ⟨hbad, e⟩ | ⟨hgood, e⟩
  · rw [e, if_pos hbad]; rfl
  · rw [e, if_neg (Bool.eq_false_iff.1 hgood)]; rfl

/-- SETMODE writes the mode or leaves TS alone, by its operand (46_mode.md R200). -/
theorem outcome_setmode_ts (m x1 x2 x3 : Byte) (pol : AckOffPolarity) (ts : TS) :
    (outcome (.setmode m x1 x2 x3) pol ts).ts = if isMode m then { ts with mode := m } else ts := by
  rcases h : isMode m with _ | _
  · rw [outcome_setmode_bad h]; rfl
  · by_cases hm : m = ts.mode
    · rw [outcome_setmode_same h hm]; rfl
    · rw [outcome_setmode_new h hm]; rfl

/-- A write to the active VFO is made of no more than its last value (10_state.md R24). -/
theorem setActiveFreq_setActiveFreq (f : Hz) (ts : TS) : setActiveFreq f (setActiveFreq f ts) = setActiveFreq f ts := by
  rcases hv : ts.activeVFO with _ | _ <;> simp [setActiveFreq, hv]

/-- Settles O50: two inversions cancel, and each setting opcode writes a value that is not read from what it writes. -/
theorem repeatedFramesUndoOrStay : Obligations.RepeatedFramesUndoOrStay := by
  refine fun pol ts => ⟨fun x => ?lock, fun x => ?split, fun x => ?vfo, fun i hi => ?sets⟩
  case lock =>
    show { ts with lock := !!ts.lock } = ts
    rw [Bool.not_not]
  case split =>
    show { ts with split := !!ts.split } = ts
    rw [Bool.not_not]
  case vfo =>
    show { ts with activeVFO := otherVfo (otherVfo ts.activeVFO) } = ts
    rw [otherVfo_otherVfo]
  case sets =>
    rcases hi with ⟨p, rfl⟩ | ⟨m, x1, x2, x3, rfl⟩ | ⟨x, rfl⟩ | ⟨x, rfl⟩ | ⟨x, rfl⟩ | ⟨x, rfl⟩ | ⟨x, rfl⟩
    · rw [outcome_setfreq_ts, outcome_setfreq_ts]
      split
      exacts [rfl, setActiveFreq_setActiveFreq _ ts]
    · rw [outcome_setmode_ts, outcome_setmode_ts]
      split <;> rfl
    -- The flags are written with constants.
    all_goals rfl

end Sys2Proof.Machine
end
